-- ==== Sys2Proof/Word.lean ====
section
/-! DEFINITION. The word types of the block: the widths of 00_scope.md section 4 and of the port list, 10_state.md R11. -/

namespace Sys2Proof

/-- A byte (`BYTE_W` = 8): bus addresses, `fq_size` (`FQ_W` = 8), `cfg_byte`, the two raw bytes. -/
abbrev Byte := BitVec 8

/-- One of the three single-bit fields of the configuration (`FIELD_W` = 1, 92_eei_decisions.md D4; log 13). -/
abbrev Field := BitVec 1

/-- The fault-queue selector code, 2 bits (R52). -/
abbrev FqCode := BitVec 2

/-- The raw 11-bit temperature field `value11` (`TEMP_W` = 11, R54). -/
abbrev Raw11 := BitVec 11

end Sys2Proof
end

