-- ==== Sys2Proof/Config.lean ====
section
/-! DEFINITION. What the spec fixes once (the named constants of 10_state.md R20), what it leaves OPEN as a parameter, and the free values.
An `opaque` below has no body: no proof can see what it is, so a claim holds for every value of it. -/

namespace Sys2Proof

/-- `CONF_PTR` = 0x01, the register pointer of the configuration register (R20). -/
def Config.confPtr : Byte := 0x01

/-- `TEMP_PTR` = 0x00, the register pointer of the temperature register (R20). -/
def Config.tempPtr : Byte := 0x00

/-- `RAW_LEN` = 2, the bytes of a raw temperature sample (R15, R34). -/
def Config.rawLen : Nat := 2

/-- `CFG_DEV_ADDR`, the fixed bus address of the configuration write: OPEN, a byte (R20, D9; log 11). -/
opaque Config.cfgDevAddr : Byte

/-- `BusErrorInfo`, what a `BusError` carries: OPEN, a type (D17; log 12). The block copies it and never inspects it (R103). -/
structure BusErrorInfo where
  token : Nat
deriving DecidableEq, Repr, Inhabited

/-! Sensor registers at power-on, by bus address: a draw, never a chosen value (R14, R15, R16, R21, U11; DESIGN CHOICE, log 6). -/

/-- The register pointer of the sensor at this address before anything wrote it. -/
opaque Config.resetPtr : Byte → Byte
/-- The configuration register of the sensor at this address before anything wrote it. -/
opaque Config.resetConf : Byte → Byte
/-- The temperature register of the sensor at this address before the first transaction. -/
opaque Config.resetTemp : Byte → BitVec 16
/-- The hysteresis threshold of the sensor at this address, "assumed pre-set". -/
opaque Config.resetHyst : Byte → Nat
/-- The overtemperature threshold of the sensor at this address, "assumed pre-set". -/
opaque Config.resetOvertemp : Byte → Nat

/-! Sensor registers the spec leaves arbitrary at some moment of a run, by the counter `State.freeCount` (R41, U6, N10, N13; log 7, 8, 9). -/

/-- A free register pointer. -/
opaque Config.freePtr : Nat → Byte
/-- A free configuration register. -/
opaque Config.freeConf : Nat → Byte
/-- A free temperature register. -/
opaque Config.freeTemp : Nat → BitVec 16
/-- A free hysteresis threshold. -/
opaque Config.freeHyst : Nat → Nat
/-- A free overtemperature threshold. -/
opaque Config.freeOvertemp : Nat → Nat

end Sys2Proof
end

