-- ==== Sys2Proof/Machine/Operands.lean ====
section
/-! DEFINITION. The data formats and the arithmetic of the two function units: the configuration byte (R51, R52, R71, R72),
the raw temperature sample and its field (R53, R54, R80), the signed value (R81) and its binary32 view (R55). -/

namespace Sys2Proof.Machine

/-- FQMAP's lookup, on any integer (R70: "a model that takes `fq_size` as a wider integer applies the same rule"). -/
def fqMap (n : Int) : Option FqCode :=
  if n = 1 then some 0b00
  else if n = 2 then some 0b01
  else if n = 4 then some 0b10
  else if n = 6 then some 0b11
  else none

/-- The inverse of the lookup, total on the four codes (R52). -/
def fqSizeOf (c : FqCode) : Byte :=
  if c = 0b00 then 1 else if c = 0b01 then 2 else if c = 0b10 then 4 else 6

/-- The source's unmasked formula for any field width `w` (`FIELD_W`), the result cut to 8 bits (R71). -/
def packFields (w : Nat) (fqCode : FqCode) (osPol osMode devMode : BitVec w) : Byte :=
  (fqCode.setWidth 8 <<< 3) ||| (osPol.setWidth 8 <<< 2) ||| (osMode.setWidth 8 <<< 1) ||| devMode.setWidth 8

/-- The byte assembly of this hardware, `FIELD_W` = 1 (R71): pattern `000qqpmd` (R51). -/
def packByte (fqCode : FqCode) (osPol osMode devMode : Field) : Byte :=
  packFields 1 fqCode osPol osMode devMode

/-- What CUNPACK delivers on its five output ports (R61, R72). -/
structure ConfigFields where
  fqCode : FqCode
  fqSize : Byte
  osPol : Field
  osMode : Field
  devMode : Field
deriving DecidableEq, Repr

/-- The fields of a configuration byte; bits 7:5 are ignored (R72, D11). -/
def unpackByte (b : Byte) : ConfigFields where
  fqCode := b.extractLsb' 3 2
  fqSize := fqSizeOf (b.extractLsb' 3 2)
  osPol := b.extractLsb' 2 1
  osMode := b.extractLsb' 1 1
  devMode := b.extractLsb' 0 1

/-- `value11 = (byte0 << 3) | (byte1 >> 5)`: the left shift in 11 bits, the right shift logical (R54, R80). -/
def assemble11 (b0 b1 : Byte) : Raw11 :=
  (b0.setWidth 11 <<< 3) ||| (b1 >>> 5).setWidth 11

/-- The source's own steps for the signed value `k`: sign test on bit 10, invert the low 11 bits, add 1, negate (R81). -/
def signDecode (v : Raw11) : Int :=
  if v.getLsbD 10 then -(((v ^^^ 0x7FF) + 1).toNat : Int) else (v.toNat : Int)

/-- `f32(k)`, the IEEE 754 binary32 pattern of `k × 0.125` for `|k| ≤ 1024` (R55). -/
def f32 (k : Int) : BitVec 32 :=
  if k = 0 then 0
  else
    let s : Nat := if k < 0 then 1 else 0
    let m := k.natAbs
    let e := Nat.log2 m
    BitVec.ofNat 32 ((s <<< 31) ||| ((e + 124) <<< 23) ||| ((m - 2 ^ e) <<< (23 - e)))

/-- The `Temperature` on its two output ports (R11, R55, D5). -/
structure Temperature where
  tempQ3 : BitVec 11
  tempF32 : BitVec 32
deriving DecidableEq, Repr

/-- The temperature whose value is `k × 0.125` degrees Celsius, on both ports (R55, R81). -/
def temperatureOf (k : Int) : Temperature where
  tempQ3 := BitVec.ofInt 11 k
  tempF32 := f32 k

/-- `k`, read back from the two's-complement port. -/
def Temperature.count (t : Temperature) : Int := t.tempQ3.toInt

/-- S11F: "return k * 0.125" (R81). -/
def decode11 (v : Raw11) : Temperature := temperatureOf (signDecode v)

/-- TDEC: `S11F(TASM(b0, b1))` (R82). -/
def decodeSample (b0 b1 : Byte) : Temperature := decode11 (assemble11 b0 b1)

/-- FRAME_CFGWR: the two bytes of a configuration write (R56). -/
def configFrame (cfgByte : Byte) : List Byte := [Config.confPtr, cfgByte]

/-- FRAME_TPTR: the one byte that selects the temperature register (R56). -/
def pointerFrame : List Byte := [Config.tempPtr]

end Sys2Proof.Machine
end

