-- ==== Sys2Proof/Syntax.lean ====
section
/-! DEFINITION. The nine operations of 00_scope.md R5, with their request ports (10_state.md R11, 30_encoding.md R61) as operands. -/

namespace Sys2Proof

/-- The nine operations by name, in the order of the table of R5. Which one runs is which request port group was driven (R59). -/
inductive Op where
  | fqmap | cpack | cunpack | cfgenc | tasm | s11f | tdec | init | rdtemp
deriving DecidableEq, Repr

/-- The input record `DeviceConfig` (R18), with this spec's port names. -/
structure DeviceConfig where
  devAddr : Byte
  fqSize : Byte
  osPol : Field
  osMode : Field
  devMode : Field
deriving DecidableEq, Repr

/-- One request: an operation with the values on its input ports. -/
inductive Instr where
  /-- FQMAP, the fault-queue lookup (R70). -/
  | fqmap (fqSize : Byte)
  /-- CPACK, the byte assembly (R71). -/
  | cpack (fqCode : FqCode) (osPol osMode devMode : Field)
  /-- CUNPACK, the inverse of CPACK (R72). -/
  | cunpack (cfgByte : Byte)
  /-- CFGENC, validate, pack, write (R73). -/
  | cfgenc (devAddr fqSize : Byte) (osPol osMode devMode : Field)
  /-- TASM, assembly of the 11-bit field (R80). -/
  | tasm (rawB0 rawB1 : Byte)
  /-- S11F, two's complement to Temperature (R81). -/
  | s11f (raw11 : Raw11)
  /-- TDEC, the decoder's whole contract (R82). -/
  | tdec (rawB0 rawB1 : Byte)
  /-- INIT, `initialize(config)`; `none` is the null reference, `cfg_present` = 0 (R90, D7). -/
  | init (cfg : Option DeviceConfig)
  /-- RDTEMP, `readTemperature(deviceAddress)`; `dstPresent` is `dst_present` (R91, D7). -/
  | rdtemp (devAddr : Byte) (dstPresent : Bool)
deriving DecidableEq, Repr

/-- The request port group an instruction drives (R59). -/
def Instr.op : Instr → Op
  | .fqmap _ => .fqmap
  | .cpack _ _ _ _ => .cpack
  | .cunpack _ => .cunpack
  | .cfgenc _ _ _ _ _ => .cfgenc
  | .tasm _ _ => .tasm
  | .s11f _ => .s11f
  | .tdec _ _ => .tdec
  | .init _ => .init
  | .rdtemp _ _ => .rdtemp

end Sys2Proof
end

