-- ==== Sys2Proof/WellFormed.lean ====
section
/-! DEFINITION. Which request images are well formed: a request port group followed by one value per port, each within its port's width
(10_state.md R11, 30_encoding.md R61). The operand types of `Instr` carry these widths already, so the check is on the image, before decoding:
a field that is not 0 or 1 (U1) and a raw sample that is not two bytes (U2) "cannot be presented" (R71, R34). -/

namespace Sys2Proof

/-- The port groups, numbered in the order of R5's table. DESIGN CHOICE (log 1): the spec gives the groups no numbers. -/
def Op.all : List Op := [.fqmap, .cpack, .cunpack, .cfgenc, .tasm, .s11f, .tdec, .init, .rdtemp]

/-- The operation whose group number is `g`; none above 8. -/
def Op.ofNumber (g : Byte) : Option Op := Op.all[g.toNat]?

/-- The widths of the five ports of a `DeviceConfig`: `dev_addr`, `fq_size`, `os_pol`, `os_mode`, `dev_mode` (R18). -/
def DeviceConfig.portWidths : List Nat := [8, 8, 1, 1, 1]

/-- Every value of the list fits the width at its place, and there are as many values as widths. -/
def portsFit : List Nat → List Byte → Bool
  | [], [] => true
  | w :: ws, b :: bs => decide (b.toNat < 2 ^ w) && portsFit ws bs
  | _, _ => false

/-- The port values of one group: `raw11` travels as its three high bits and its low byte, most significant first;
INIT carries `cfg_present` and, only when that is 1, the five fields of the record (R61). -/
def Op.portsWellFormed : Op → List Byte → Bool
  | .fqmap, ps => portsFit [8] ps
  | .cpack, ps => portsFit [2, 1, 1, 1] ps
  | .cunpack, ps => portsFit [8] ps
  | .cfgenc, ps => portsFit DeviceConfig.portWidths ps
  | .tasm, ps => portsFit [8, 8] ps
  | .s11f, ps => portsFit [3, 8] ps
  | .tdec, ps => portsFit [8, 8] ps
  | .init, ps => decide (ps = [0]) || portsFit (1 :: DeviceConfig.portWidths) ps && decide (ps.head? = some 1)
  | .rdtemp, ps => portsFit [8, 1] ps

/-- A request image is well formed: a known group number, then port values that fit. -/
def imageWellFormed : List Byte → Bool
  | [] => false
  | g :: ps =>
    match Op.ofNumber g with
    | none => false
    | some op => op.portsWellFormed ps

end Sys2Proof
end

