-- ==== Sys2Proof/Decode.lean ====
section
/-! DEFINITION. From a request image to an instruction, and back; then the data words of spec/opcode_table.json.
The hardware has no opcode field: "a model's decoder is a match on the operation name" (R59). The image is the model's own writing of
"which group was driven" and of the values on its ports (DESIGN CHOICE, log 1). Any list of bytes decodes or is rejected by a name. -/

namespace Sys2Proof

/-- Why an image is no request of this hardware. -/
inductive DecodeError where
  /-- The image is empty: no port group is driven. -/
  | emptyImage
  /-- No port group has this number (R5: "exactly nine operations"). -/
  | noSuchGroup (g : Byte)
  /-- The group has another number of ports (R11, R61). -/
  | wrongPortCount (op : Op)
  /-- TASM or TDEC with other than exactly 2 raw bytes (R34, U2). -/
  | sampleNotTwoBytes (op : Op)
  /-- A polarity, operation-mode or device-mode input other than 0 or 1 (R71, U1). -/
  | fieldNotBit (b : Byte)
  /-- A fault-queue code that does not fit 2 bits. -/
  | codeNotTwoBits (b : Byte)
  /-- A raw field that does not fit 11 bits. -/
  | rawNotElevenBits (b : Byte)
  /-- A presence bit other than 0 or 1 (D7). -/
  | presenceNotBit (b : Byte)
deriving DecidableEq, Repr

/-- A single-bit field port (`FIELD_W` = 1). -/
def decodeField (b : Byte) : Except DecodeError Field :=
  if b.toNat < 2 then .ok (b.setWidth 1) else .error (.fieldNotBit b)

/-- The 2-bit `fq_code` port. -/
def decodeCode (b : Byte) : Except DecodeError FqCode :=
  if b.toNat < 4 then .ok (b.setWidth 2) else .error (.codeNotTwoBits b)

/-- The 11-bit `raw11` port, most significant byte first. -/
def decodeRaw11 (hi lo : Byte) : Except DecodeError Raw11 :=
  if hi.toNat < 8 then .ok (hi.setWidth 3 ++ lo) else .error (.rawNotElevenBits hi)

/-- A presence bit: 1 when the reference is non-null (D7). -/
def decodePresence (b : Byte) : Except DecodeError Bool :=
  if b = 0 then .ok false else if b = 1 then .ok true else .error (.presenceNotBit b)

/-- The five ports of the configuration record (R18), for CFGENC and INIT. -/
def decodeConfig (op : Op) : List Byte → Except DecodeError DeviceConfig
  | [a, n, p, m, d] => do
    let p ← decodeField p
    let m ← decodeField m
    let d ← decodeField d
    return { devAddr := a, fqSize := n, osPol := p, osMode := m, devMode := d }
  | _ => .error (.wrongPortCount op)

/-- INIT's ports: the presence bit, and the record when there is one (R61: "`cfg_present`, and if 1 the five fields"). -/
def decodeInit : List Byte → Except DecodeError Instr
  | [] => .error (.wrongPortCount .init)
  | pres :: ps => do
    let present ← decodePresence pres
    if present then
      let cfg ← decodeConfig .init ps
      return .init (some cfg)
    else if ps.isEmpty then return .init none
    else .error (.wrongPortCount .init)

/-- The values on the ports of the group that is driven, as one instruction (R11, R59, R61). -/
def decodePorts (op : Op) (ps : List Byte) : Except DecodeError Instr :=
  match op with
  | .fqmap =>
    match ps with
    | [n] => .ok (.fqmap n)
    | _ => .error (.wrongPortCount op)
  | .cpack =>
    match ps with
    | [c, p, m, d] => do
      let c ← decodeCode c
      let p ← decodeField p
      let m ← decodeField m
      let d ← decodeField d
      return .cpack c p m d
    | _ => .error (.wrongPortCount op)
  | .cunpack =>
    match ps with
    | [b] => .ok (.cunpack b)
    | _ => .error (.wrongPortCount op)
  | .cfgenc => do
    let c ← decodeConfig op ps
    return .cfgenc c.devAddr c.fqSize c.osPol c.osMode c.devMode
  | .tasm =>
    match ps with
    | [b0, b1] => .ok (.tasm b0 b1)
    | _ => .error (.sampleNotTwoBytes op)
  | .s11f =>
    match ps with
    | [hi, lo] => do
      let v ← decodeRaw11 hi lo
      return .s11f v
    | _ => .error (.wrongPortCount op)
  | .tdec =>
    match ps with
    | [b0, b1] => .ok (.tdec b0 b1)
    | _ => .error (.sampleNotTwoBytes op)
  | .init => decodeInit ps
  | .rdtemp =>
    match ps with
    | [a, dst] => do
      let present ← decodePresence dst
      return .rdtemp a present
    | _ => .error (.wrongPortCount op)

/-- The decoder, total on any bytes. -/
def decode : List Byte → Except DecodeError Instr
  | [] => .error .emptyImage
  | g :: ps =>
    match Op.ofNumber g with
    | none => .error (.noSuchGroup g)
    | some op => decodePorts op ps

/-- The number of a port group: its place in R5's table. -/
def Op.number : Op → Byte
  | .fqmap => 0
  | .cpack => 1
  | .cunpack => 2
  | .cfgenc => 3
  | .tasm => 4
  | .s11f => 5
  | .tdec => 6
  | .init => 7
  | .rdtemp => 8

/-- The five ports of a configuration record, in R18's order. -/
def encodeConfig (c : DeviceConfig) : List Byte :=
  [c.devAddr, c.fqSize, c.osPol.setWidth 8, c.osMode.setWidth 8, c.devMode.setWidth 8]

/-- A presence bit as a port value. -/
def encodePresence (present : Bool) : Byte := if present then 1 else 0

/-- The values an instruction puts on the ports of its group. -/
def encodePorts : Instr → List Byte
  | .fqmap n => [n]
  | .cpack c p m d => [c.setWidth 8, p.setWidth 8, m.setWidth 8, d.setWidth 8]
  | .cunpack b => [b]
  | .cfgenc a n p m d => encodeConfig { devAddr := a, fqSize := n, osPol := p, osMode := m, devMode := d }
  | .tasm b0 b1 => [b0, b1]
  | .s11f v => [(v.extractLsb' 8 3).setWidth 8, v.extractLsb' 0 8]
  | .tdec b0 b1 => [b0, b1]
  | .init none => [encodePresence false]
  | .init (some c) => encodePresence true :: encodeConfig c
  | .rdtemp a dst => [a, encodePresence dst]

/-- The encoder: the image of an instruction. -/
def encode (i : Instr) : List Byte := i.op.number :: encodePorts i

/-! ## The data words of spec/opcode_table.json

A row's word is the data word its operation produces or consumes, no instruction word, and several rows share their words (R59; log 19).
What follows reads such a word as a request that forms it (FQMAP, CPACK, CFGENC, RDTEMP) or consumes it (CUNPACK, S11F, TDEC). -/

/-- The data word of an instruction by the table's pattern strings (R51 to R56), leftmost byte first;
`none` where the operation forms no word (an illegal length, a null reference) and for RDTEMP's received half. -/
def dataWord : Instr → Option (List Byte)
  | .fqmap n => (Machine.fqMap n.toNat).map fun c => [c.setWidth 8]
  | .cpack c p m d => some [Machine.packByte c p m d]
  | .cunpack b => some [b]
  | .cfgenc _ n p m d => (Machine.fqMap n.toNat).map fun c => Machine.configFrame (Machine.packByte c p m d)
  | .tasm b0 b1 => some [b0, b1]
  | .s11f v => some [(v.extractLsb' 8 3).setWidth 8, v.extractLsb' 0 8]
  | .tdec b0 b1 => some [b0, b1]
  | .init none => none
  | .init (some c) => (Machine.fqMap c.fqSize.toNat).map fun q => Machine.configFrame (Machine.packByte q c.osPol c.osMode c.devMode)
  | .rdtemp _ dst => if dst then some Machine.pointerFrame else none

/-- The low `n` bytes of `w`, the most significant first: the table writes the first byte in time leftmost. -/
def wordBytes : Nat → Nat → List Byte
  | 0, _ => []
  | n + 1, w => BitVec.ofNat 8 (w >>> (8 * n)) :: wordBytes n w

/-- The image of the request that forms this configuration byte through CPACK. -/
def packImage (b : Byte) : List Byte :=
  let f := Machine.unpackByte b
  encode (.cpack f.fqCode f.osPol f.osMode f.devMode)

/-- The image of the CFGENC request that forms this configuration byte; `dev_addr` leaves no trace in the frame and is 0. -/
def configImage (b : Byte) : List Byte :=
  let f := Machine.unpackByte b
  encode (.cfgenc 0 f.fqSize f.osPol f.osMode f.devMode)

/-- The request image a word of the table stands for, by the row's width and fixed bits; where rows share a word, one of them (log 19).
The empty image, which the decoder rejects, where no row has such a word. -/
def tableImage (nbits w : Nat) : List Byte :=
  match nbits, wordBytes ((nbits + 7) / 8) w with
  | 2, [b] => encode (.fqmap (Machine.fqSizeOf (b.setWidth 2)))
  | 8, [b] => if b.toNat < 32 then packImage b else encode (.cunpack b)
  | 11, [hi, lo] => Op.s11f.number :: [hi, lo]
  | 16, [b0, b1] =>
    if b0 = Config.confPtr ∧ b1.toNat < 32 then configImage b1
    else if b0.toNat < 8 then Op.s11f.number :: [b0, b1]
    else Op.tdec.number :: [b0, b1]
  | 24, [p, _, _] => if p = Config.tempPtr then encode (.rdtemp 0 true) else []
  | _, _ => []

/-- The instruction the decoder reads from a word of the table (log 19). -/
def decodeTableWord (nbits w : Nat) : Option Instr := (decode (tableImage nbits w)).toOption

end Sys2Proof
end

