-- ==== Sys2Proof/Machine/Flags.lean ====
section
/-! DEFINITION. The block has no status flags and no condition codes (10_state.md R13); what an operation reports instead is an outcome:
success, or one of the three error kinds of 60_exceptions.md R100. -/

namespace Sys2Proof.Machine

/-- The three error kinds (R100); `busError` carries the transport's own value unchanged (R103). -/
inductive ErrorKind where
  | nullArgument
  | invalidArgument
  | busError (e : BusErrorInfo)
deriving DecidableEq, Repr

/-- The four outcomes (R57). -/
inductive Status where
  | ok
  | nullArgument
  | invalidArgument
  | busError
deriving DecidableEq, Repr

/-- The code of an outcome on the 2-bit `status` port (R57, D6). -/
def Status.code : Status → BitVec 2
  | .ok => 0b00
  | .nullArgument => 0b01
  | .invalidArgument => 0b10
  | .busError => 0b11

/-- The outcome an error kind reports. -/
def ErrorKind.status : ErrorKind → Status
  | .nullArgument => .nullArgument
  | .invalidArgument => .invalidArgument
  | .busError _ => .busError

end Sys2Proof.Machine
end

