-- ==== Sys2Proof/Machine/State.lean ====
section
/-! DEFINITION. The state, as plain data. The block's own part of it is the unit type (R10); what is here is the sensors behind the bus
(10_state.md R14 to R17), the position inside an operation in flight (R12), the outputs of the transaction just ended (R11), the inputs from the
caller and from the transport (R31, R59), and the history of bus events (R35). -/

namespace Sys2Proof.Machine

/-- A sensor's registers: pointer (R17), configuration (R14), temperature (R15), and the two thresholds (R16), whose widths the spec does not give. -/
structure Sensor where
  ptr : Byte
  conf : Byte
  temp : BitVec 16
  hyst : Nat
  overtemp : Nat
deriving DecidableEq, Repr

/-- What the transport answers to a call that returns: success with a value, or `BusError(e)` (R31). -/
inductive Answer (α : Type) where
  | ok (a : α)
  | busError (e : BusErrorInfo)
deriving DecidableEq, Repr

/-- A call of a transport primitive that has returned, with its arguments and its answer (R31; the notation S, S!, R, R! of 95_test_vectors.md). -/
inductive BusEvent where
  /-- `BusSend(a, bytes)`. -/
  | send (a : Byte) (bytes : List Byte) (answer : Answer Unit)
  /-- `BusRecv(a, n)`; the bytes of a success in arrival order. -/
  | recv (a : Byte) (n : Nat) (answer : Answer (Byte × Byte))
deriving DecidableEq, Repr

/-- The two operations that perform the configuration write (R73, R90). -/
inductive ConfigCaller where
  | cfgenc
  | init
deriving DecidableEq, Repr

/-- Where an operation in flight stands: the call that has not returned, with what the rest of the sequence needs (R12, R39). -/
inductive InFlight where
  /-- CFGENC or INIT, in `BusSend(CFG_DEV_ADDR, [0x01, b])`. -/
  | configWrite (caller : ConfigCaller) (cfgByte : Byte)
  /-- RDTEMP step 1, in `BusSend(dev_addr, [0x00])`. -/
  | tempPointer (devAddr : Byte)
  /-- RDTEMP step 2, in `BusRecv(dev_addr, 2)`. -/
  | tempReceive (devAddr : Byte)
deriving DecidableEq, Repr

/-- What an operation delivers on success (R61, D22). -/
inductive Payload where
  /-- FQMAP: `fq_code`. -/
  | fqCode (c : FqCode)
  /-- CPACK, CFGENC: `cfg_byte`. -/
  | cfgByte (b : Byte)
  /-- CUNPACK: the five fields. -/
  | fields (f : ConfigFields)
  /-- TASM: `raw11`. -/
  | raw11 (v : Raw11)
  /-- S11F, TDEC, RDTEMP: `temp_q3` and `temp_f32`. -/
  | temperature (t : Temperature)
  /-- INIT: `Ok(())`. -/
  | unit
deriving DecidableEq, Repr

/-- `Result<T>`: a sum, so an error has no value output (R61, D10). -/
inductive Result where
  | ok (p : Payload)
  | err (k : ErrorKind)
deriving DecidableEq, Repr

/-- The outputs of one transaction: which group answered, and its result (R11, R61). -/
structure Response where
  op : Op
  result : Result
deriving DecidableEq, Repr

/-- No fault exists: "The only failures are the three error kinds" (R8), and those are results; a call that never returns is
"a hang, not a fault" (R8). Nothing raises a fault, so there is no constructor (log 22). -/
inductive Fault where
deriving DecidableEq, Repr

/-- Why the model gives no result. -/
inductive Refusal where
  /-- Raised by no arm: every operation has its meaning. Safe. -/
  | notModelled (mnemonic : String)
  /-- Raised by `step` on a request image no port group can carry: U1, U2 (R34, R71). Safe: the hardware cannot be given it (log 15). -/
  | malformedRequest (why : DecodeError)
  /-- Raised by CFGENC, INIT and RDTEMP when another bus operation is in flight: U8 (R37, D16). Safe; `step` never starts one then (log 16). -/
  | operationInFlight
deriving DecidableEq, Repr

/-- The whole state. -/
structure State where
  /-- Requests the caller presents, in the order called (R35b, R59; log 2). -/
  requests : List (List Byte)
  /-- The operation whose bus call has not returned, if any (R12, R39). -/
  inFlight : Option InFlight
  /-- The output ports in the transaction the last step ended, if it ended one (R11; log 17). -/
  response : Option Response
  /-- What the transport will answer to the coming sends; none left: the call does not return (R31, R39; log 3). -/
  sendAnswers : List (Answer Unit)
  /-- What the transport will answer to the coming receives, two bytes each in arrival order (R31, R34; log 3). -/
  recvAnswers : List (Answer (Byte × Byte))
  /-- The calls that have returned, oldest first (R35; log 18). -/
  bus : List BusEvent
  /-- The sensor at each bus address (R14 to R17, R30; log 5); distinct address bytes are distinct sensors (log 26). -/
  sensors : Vector Sensor 256
  /-- The model's own: the index of the next free value (log 20). -/
  freeCount : Nat
deriving DecidableEq, Repr

/-- A sensor nothing has reached yet: every register a draw (R21, U11; log 6). -/
def Sensor.reset (a : Byte) : Sensor where
  ptr := Config.resetPtr a
  conf := Config.resetConf a
  temp := Config.resetTemp a
  hyst := Config.resetHyst a
  overtemp := Config.resetOvertemp a

/-- The machine right after reset: the block "is ready for any operation at once" (R120), no request presented, nothing answered (log 21). -/
def State.reset : State where
  requests := []
  inFlight := none
  response := none
  sendAnswers := []
  recvAnswers := []
  bus := []
  sensors := Vector.ofFn fun a => Sensor.reset (BitVec.ofFin a)
  freeCount := 0

end Sys2Proof.Machine
end

