-- ==== Sys2Proof/Machine/Ops.lean ====
section
/-! DEFINITION. The named operations over the state: the two transport primitives (20_memory.md R31), what they do to a sensor
(R41, R73, R91), delivering a result, returning an error (60_exceptions.md R106), waiting (R39), and taking the next request (R59). -/

namespace Sys2Proof.Machine

/-! ## Output ports (R11, R61) -/

/-- The outcome of a result (R57). -/
def Result.status : Result → Status
  | .ok _ => .ok
  | .err k => k.status

/-- The operations that have a `status` port (R11). -/
def hasStatusPort : Op → Bool
  | .fqmap | .cfgenc | .init | .rdtemp => true
  | .cpack | .cunpack | .tasm | .s11f | .tdec => false

/-- The `status` port. -/
def Response.statusPort (r : Response) : Option (BitVec 2) :=
  if hasStatusPort r.op then some r.result.status.code else none

/-- The `fq_code` port. -/
def Response.fqCodePort (r : Response) : Option FqCode :=
  match r.result with
  | .ok (.fqCode c) => some c
  | .ok (.fields f) => some f.fqCode
  | _ => none

/-- The `fq_size` port of CUNPACK. -/
def Response.fqSizePort (r : Response) : Option Byte :=
  match r.result with
  | .ok (.fields f) => some f.fqSize
  | _ => none

/-- The `os_pol`, `os_mode` and `dev_mode` ports of CUNPACK, in that order. -/
def Response.bitPorts (r : Response) : Option (Field × Field × Field) :=
  match r.result with
  | .ok (.fields f) => some (f.osPol, f.osMode, f.devMode)
  | _ => none

/-- The `cfg_byte` port. -/
def Response.cfgBytePort (r : Response) : Option Byte :=
  match r.result with
  | .ok (.cfgByte b) => some b
  | _ => none

/-- The `raw11` port. -/
def Response.raw11Port (r : Response) : Option Raw11 :=
  match r.result with
  | .ok (.raw11 v) => some v
  | _ => none

/-- The `temp_q3` port. -/
def Response.tempQ3Port (r : Response) : Option (BitVec 11) :=
  match r.result with
  | .ok (.temperature t) => some t.tempQ3
  | _ => none

/-- The `temp_f32` port. -/
def Response.tempF32Port (r : Response) : Option (BitVec 32) :=
  match r.result with
  | .ok (.temperature t) => some t.tempF32
  | _ => none

/-- The `bus_err` port: the transport's error, unchanged (R57, R103). -/
def Response.busErrPort (r : Response) : Option BusErrorInfo :=
  match r.result with
  | .err (.busError e) => some e
  | _ => none

/-! ## Ending a transaction, and waiting -/

/-- The operation is over and this is its result (R125). -/
def State.respond (s : State) (op : Op) (r : Result) : State :=
  { s with response := some { op := op, result := r } }

/-- `return Err(kind)`: the error is the operation's whole result; nothing is saved, switched or masked (R106), and there is nothing
to return from (R107). This is the spec's `raise <Exception>`. -/
def State.returnErr (s : State) (op : Op) (k : ErrorKind) : State := s.respond op (.err k)

/-- The bus call has not returned: the operation stays at its place and yields nothing (R39, R125, U7; log 4). -/
def State.await (s : State) (p : InFlight) : State :=
  { s with inFlight := some p, response := none }

/-- The waiting operation goes on: no call is outstanding while it runs. -/
def State.leaveFlight (s : State) : State := { s with inFlight := none }

/-- No request and nothing in flight: the block does nothing, and its output ports hold no result (R11). -/
def State.idle (s : State) : State := { s with response := none }

/-- Two bus operations in flight on one device are outside the model (R37, U8, D16; log 16). -/
def State.whenIdle (s : State) (t : State) : Host.Outcome State Fault Refusal :=
  match s.inFlight with
  | none => .next t
  | some _ => .refused .operationInFlight

/-! ## The sensors -/

/-- The sensor at a bus address. -/
def State.sensor (s : State) (a : Byte) : Sensor := s.sensors[a.toNat]'a.isLt

/-- Changes the sensor at one bus address, giving the change the index of a free value that no other change gets. The sensor at every other
address byte stays: that two bytes never name one device is DESIGN CHOICE, unsafe, for R30 and D18 leave it open (log 26). -/
def State.onSensor (s : State) (a : Byte) (f : Nat → Sensor → Sensor) : State :=
  { s with sensors := s.sensors.set a.toNat (f s.freeCount (s.sensor a)) a.isLt
           freeCount := s.freeCount + 1 }

/-- A sensor in any state: after a failed transaction (R41, U6; log 7). -/
def Sensor.arbitrary (n : Nat) (_old : Sensor) : Sensor where
  ptr := Config.freePtr n
  conf := Config.freeConf n
  temp := Config.freeTemp n
  hyst := Config.freeHyst n
  overtemp := Config.freeOvertemp n

/-- After a successful send: one byte moves the register pointer (R17); two move it and write the configuration register, all eight
bits of it (R73, R94). The thresholds are not touched (R16); the temperature may be another conversion (N10; log 8). -/
def Sensor.afterSend (bytes : List Byte) (n : Nat) (x : Sensor) : Sensor :=
  match bytes with
  | [p] => { x with ptr := p, temp := Config.freeTemp n }
  | [p, d] =>
    if p = Config.confPtr then { x with ptr := p, conf := d, temp := Config.freeTemp n } else Sensor.arbitrary n x
  | _ => Sensor.arbitrary n x

/-- While a send of these bytes has not returned: what its success may write, and the temperature, are free; the thresholds, and for a
pointer frame the configuration, stay, for neither send touches them (R16, R90; log 7). `Sensor.afterSend` settles the rest when it succeeds. -/
def Sensor.duringSend (bytes : List Byte) (n : Nat) (x : Sensor) : Sensor :=
  match bytes with
  | [_] => { x with ptr := Config.freePtr n, temp := Config.freeTemp n }
  | [p, _] =>
    if p = Config.confPtr then { x with ptr := Config.freePtr n, conf := Config.freeConf n, temp := Config.freeTemp n }
    else Sensor.arbitrary n x
  | _ => Sensor.arbitrary n x

/-- After a successful receive: the pointer stays, and nothing else may be assumed of a read (R17, R44, N13; log 9). -/
def Sensor.afterReceive (n : Nat) (x : Sensor) : Sensor :=
  { Sensor.arbitrary n x with ptr := x.ptr }

/-- While a receive has not returned: as little may be assumed as of one that has, and the pointer that step 1 set stays (R17, R91; log 9). -/
def Sensor.duringReceive (n : Nat) (x : Sensor) : Sensor := Sensor.afterReceive n x

/-! ## The two transport primitives (R31): `none` is a call that has not returned (R39, D19) -/

/-- `BusSend(a, bytes)`. -/
def busSend (a : Byte) (bytes : List Byte) (s : State) : Option (Answer Unit) × State :=
  match s.sendAnswers with
  | [] => (none, s.onSensor a (Sensor.duringSend bytes))
  | ans :: rest =>
    let s := { s with sendAnswers := rest, bus := s.bus ++ [BusEvent.send a bytes ans] }
    match ans with
    | .ok _ => (some ans, s.onSensor a (Sensor.afterSend bytes))
    | .busError _ => (some ans, s.onSensor a Sensor.arbitrary)

/-- `BusRecv(a, 2)`, the only receive the block issues (R33). -/
def busRecv (a : Byte) (s : State) : Option (Answer (Byte × Byte)) × State :=
  match s.recvAnswers with
  | [] => (none, s.onSensor a Sensor.duringReceive)
  | ans :: rest =>
    let s := { s with recvAnswers := rest, bus := s.bus ++ [BusEvent.recv a Config.rawLen ans] }
    match ans with
    | .ok _ => (some ans, s.onSensor a Sensor.afterReceive)
    | .busError _ => (some ans, s.onSensor a Sensor.arbitrary)

/-- The position of an operation in flight in its sequence, "a number 0 to 3" (R12): 0 is before it, 3 is after RDTEMP's receive. -/
def InFlight.position : InFlight → Nat
  | .configWrite _ _ => 1
  | .tempPointer _ => 1
  | .tempReceive _ => 2

/-! ## Taking a request (R59) -/

/-- The caller's next request, decoded; `none` where none is presented. -/
def State.fetch (s : State) : Option (Except DecodeError Instr) := s.requests.head?.map decode

/-- The request is taken: each operation is performed once, in the order called (R35b, R92). -/
def State.takeRequest (s : State) : State := { s with requests := s.requests.tail }

/-- A request placed so that it is the very next one: nothing in flight, its image first (log 19). -/
def State.present (s : State) (image : List Byte) : State :=
  { s with inFlight := none, requests := image :: s.requests }

end Sys2Proof.Machine
end

