-- ==== Sys2Proof/Machine/Decoder.lean ====
section
/-! DEFINITION. The temperature decoder: TASM, S11F, TDEC (41_temperature_decoder.md). -/

namespace Sys2Proof.Machine

/-- TASM (R80): total on all 65536 byte pairs. -/
def execTasm (rawB0 rawB1 : Byte) (s : State) : Host.Outcome State Fault Refusal :=
  .next (s.respond .tasm (.ok (.raw11 (assemble11 rawB0 rawB1))))

/-- S11F (R81): total on all 2048 fields. -/
def execS11f (raw11 : Raw11) (s : State) : Host.Outcome State Fault Refusal :=
  .next (s.respond .s11f (.ok (.temperature (decode11 raw11))))

/-- TDEC (R82): "it cannot fail given exactly 2 input bytes". -/
def execTdec (rawB0 rawB1 : Byte) (s : State) : Host.Outcome State Fault Refusal :=
  .next (s.respond .tdec (.ok (.temperature (decodeSample rawB0 rawB1))))

end Sys2Proof.Machine
end

