-- ==== Sys2Proof/Machine/Encoder.lean ====
section
/-! DEFINITION. The configuration register encoder: FQMAP, CPACK, CUNPACK, CFGENC (40_config_encoder.md). -/

namespace Sys2Proof.Machine

/-- FQMAP (R70): the code, or `InvalidArgument` for any other length. -/
def execFqmap (fqSize : Byte) (s : State) : Host.Outcome State Fault Refusal :=
  match fqMap fqSize.toNat with
  | some c => .next (s.respond .fqmap (.ok (.fqCode c)))
  | none => .next (s.returnErr .fqmap .invalidArgument)

/-- CPACK (R71): total. -/
def execCpack (fqCode : FqCode) (osPol osMode devMode : Field) (s : State) : Host.Outcome State Fault Refusal :=
  .next (s.respond .cpack (.ok (.cfgByte (packByte fqCode osPol osMode devMode))))

/-- CUNPACK (R72): total on all 256 bytes. -/
def execCunpack (cfgByte : Byte) (s : State) : Host.Outcome State Fault Refusal :=
  .next (s.respond .cunpack (.ok (.fields (unpackByte cfgByte))))

/-- The operation on whose behalf a configuration is written. -/
def ConfigCaller.op : ConfigCaller → Op
  | .cfgenc => .cfgenc
  | .init => .init

/-- CFGENC returns the byte it wrote, INIT returns `Ok(())` (D22). -/
def ConfigCaller.payload : ConfigCaller → Byte → Payload
  | .cfgenc, b => .cfgByte b
  | .init, _ => .unit

/-- `BusSend(CFG_DEV_ADDR, [0x01, b])` and what its answer makes of the operation (R73). -/
def configWrite (caller : ConfigCaller) (b : Byte) (s : State) : State :=
  match busSend Config.cfgDevAddr (configFrame b) s with
  | (none, t) => t.await (.configWrite caller b)
  | (some (.busError e), t) => t.returnErr caller.op (.busError e)
  | (some (.ok _), t) => t.respond caller.op (.ok (caller.payload b))

/-- Validate, pack, write (R73): `InvalidArgument` before any bus call. -/
def configure (caller : ConfigCaller) (fqSize : Byte) (osPol osMode devMode : Field) (s : State) : State :=
  match fqMap fqSize.toNat with
  | none => s.returnErr caller.op .invalidArgument
  | some c => configWrite caller (packByte c osPol osMode devMode) s

/-- CFGENC (R73). `dev_addr` is accepted and not used (R43). -/
def execCfgenc (_devAddr fqSize : Byte) (osPol osMode devMode : Field) (s : State) : Host.Outcome State Fault Refusal :=
  s.whenIdle (configure .cfgenc fqSize osPol osMode devMode s)

end Sys2Proof.Machine
end

