-- ==== Sys2Proof/Machine/Driver.lean ====
section
/-! DEFINITION. The two driver sequences INIT and RDTEMP (42_driver_sequences.md), and how an operation whose bus call had not returned goes on. -/

namespace Sys2Proof.Machine

/-- INIT (R90): the null check, then the encoder's contract; its errors pass verbatim. -/
def execInit (cfg : Option DeviceConfig) (s : State) : Host.Outcome State Fault Refusal :=
  match cfg with
  | none => s.whenIdle (s.returnErr .init .nullArgument)
  | some c => s.whenIdle (configure .init c.fqSize c.osPol c.osMode c.devMode s)

/-- RDTEMP steps 2 and 3 (R91): receive two bytes, the first is `raw_b0`, and decode them. -/
def receiveTemperature (devAddr : Byte) (s : State) : State :=
  match busRecv devAddr s with
  | (none, t) => t.await (.tempReceive devAddr)
  | (some (.busError e), t) => t.returnErr .rdtemp (.busError e)
  | (some (.ok (b0, b1)), t) => t.respond .rdtemp (.ok (.temperature (decodeSample b0 b1)))

/-- RDTEMP from step 1 (R91): select the temperature register; step 2 only when that succeeded. -/
def readTemperature (devAddr : Byte) (s : State) : State :=
  match busSend devAddr pointerFrame s with
  | (none, t) => t.await (.tempPointer devAddr)
  | (some (.busError e), t) => t.returnErr .rdtemp (.busError e)
  | (some (.ok _), t) => receiveTemperature devAddr t

/-- RDTEMP (R91): the null check, then the three steps. -/
def execRdtemp (devAddr : Byte) (dstPresent : Bool) (s : State) : Host.Outcome State Fault Refusal :=
  match dstPresent with
  | false => s.whenIdle (s.returnErr .rdtemp .nullArgument)
  | true => s.whenIdle (readTemperature devAddr s)

/-- The operation in flight goes on from its outstanding call, which is the same call and not a second attempt (R39, R92). -/
def resume (p : InFlight) (s : State) : State :=
  match p with
  | .configWrite caller b => configWrite caller b s.leaveFlight
  | .tempPointer a => readTemperature a s.leaveFlight
  | .tempReceive a => receiveTemperature a s.leaveFlight

end Sys2Proof.Machine
end

