-- ==== Sys2Proof/Machine/Dispatch.lean ====
section
/-! DEFINITION. One arm per operation of R5. -/

namespace Sys2Proof.Machine

def exec (i : Instr) (s : State) : Host.Outcome State Fault Refusal :=
  match i with
  | .fqmap fqSize => Sys2Proof.Machine.execFqmap fqSize s
  | .cpack fqCode osPol osMode devMode => Sys2Proof.Machine.execCpack fqCode osPol osMode devMode s
  | .cunpack cfgByte => Sys2Proof.Machine.execCunpack cfgByte s
  | .cfgenc devAddr fqSize osPol osMode devMode => Sys2Proof.Machine.execCfgenc devAddr fqSize osPol osMode devMode s
  | .tasm rawB0 rawB1 => Sys2Proof.Machine.execTasm rawB0 rawB1 s
  | .s11f raw11 => Sys2Proof.Machine.execS11f raw11 s
  | .tdec rawB0 rawB1 => Sys2Proof.Machine.execTdec rawB0 rawB1 s
  | .init cfg => Sys2Proof.Machine.execInit cfg s
  | .rdtemp devAddr dstPresent => Sys2Proof.Machine.execRdtemp devAddr dstPresent s

end Sys2Proof.Machine
end

