-- ==== Sys2Proof/Machine/Step.lean ====
section
/-! DEFINITION. One step: an operation in flight goes on; else the caller's next request is performed (20_memory.md R35b, R37); else nothing happens. -/

namespace Sys2Proof.Machine

def step (s : State) : Host.Outcome State Fault Refusal :=
  match s.inFlight with
  | some p => .next (resume p s)
  | none =>
    match s.fetch with
    | none => .next s.idle
    | some (.error why) => .refused (.malformedRequest why)
    | some (.ok i) => exec i s.takeRequest

/-- `s` with the request that a word of spec/opcode_table.json stands for as the caller's next one (log 19). -/
def State.withFetchWord (s : State) (nbits w : Nat) : State := s.present (tableImage nbits w)

end Sys2Proof.Machine
end

