-- ==== Sys2Proof/Machine/RefDevice.lean ====
section
/-! DEFINITION. The minimal reference device of 20_memory.md R42, "for the small programs of 95_test_vectors.md, and for nothing else":
no meaning uses it. As a model of the real sensor it would err toward proving (R127; log 24). -/

namespace Sys2Proof.Machine

/-- The reference device's three registers. -/
structure RefDevice where
  ptr : Byte
  conf : Byte
  temp : BitVec 16
deriving DecidableEq, Repr

/-- A send it has an answer for, always `Ok`; `none` for "every other call". -/
def RefDevice.send (dev : RefDevice) (bytes : List Byte) : Option RefDevice :=
  match bytes with
  | [p] => some { dev with ptr := p }
  | [p, d] => some { dev with ptr := p, conf := if p = 0x01 then d else dev.conf }
  | _ => none

/-- A 2-byte receive with the pointer at 0x00 answers `[TEMP[15:8], TEMP[7:0]]`; `none` for "every other call". -/
def RefDevice.recv (dev : RefDevice) : Option (Byte × Byte) :=
  if dev.ptr = 0x00 then some (dev.temp.extractLsb' 8 8, dev.temp.extractLsb' 0 8) else none

end Sys2Proof.Machine
end

