-- ==== Sys2Proof/Safety.lean ====
section
/-! DEFINITION. The terms the claims use: the shapes of bus traffic (20_memory.md R33), the invariant of a run, what an operation may touch,
the value of a binary32 pattern, and the encode direction of the round trip (41_temperature_decoder.md R86). -/

namespace Sys2Proof.Machine

/-- The three shapes of transaction: `[0x01, b]` with bits 7:5 of `b` zero, to `CFG_DEV_ADDR`; `[0x00]`; a receive of 2 (R33, R43, R51, R56). -/
def BusEvent.Shaped : BusEvent → Prop
  | .send a bytes _ =>
    (a = Config.cfgDevAddr ∧ ∃ b : Byte, bytes = [0x01, b] ∧ b.toNat < 32) ∨ bytes = [0x00]
  | .recv _ n _ => n = 2

/-- An outstanding configuration write holds a byte the block can form (R51). -/
def InFlight.Shaped : InFlight → Prop
  | .configWrite _ b => b.toNat < 32
  | .tempPointer _ => True
  | .tempReceive _ => True

/-- The call an operation in flight waits in has no answer to come: a send for a configuration write and RDTEMP's step 1, a receive for
its step 2 (R31, R39). -/
def InFlight.Unanswered (s : State) : InFlight → Prop
  | .configWrite _ _ => s.sendAnswers = []
  | .tempPointer _ => s.sendAnswers = []
  | .tempReceive _ => s.recvAnswers = []

/-- The operations that perform the configuration write (R73, R90). -/
def configures : Instr → Bool
  | .cfgenc _ _ _ _ _ | .init _ => true
  | .fqmap _ | .cpack _ _ _ _ | .cunpack _ | .tasm _ _ | .s11f _ | .tdec _ _ | .rdtemp _ _ => false

/-- The sensor at every address holds the same two thresholds in both states (R16). -/
def SameThresholds (s t : State) : Prop :=
  ∀ x : Byte, (t.sensor x).hyst = (s.sensor x).hyst ∧ (t.sensor x).overtemp = (s.sensor x).overtemp

/-- RDTEMP's step 1 has succeeded and its step 2 has not failed: it waits in its receive, or it has delivered a temperature (R91). -/
def PointerWritten (t : State) (a : Byte) : Prop :=
  t.inFlight = some (.tempReceive a) ∨ ∃ x, t.response = some ⟨.rdtemp, .ok x⟩

/-- The invariant of a run: all bus traffic has one of the three shapes (R33), and an operation in flight has a legal byte and
no result yet (R125). -/
def State.Inv (s : State) : Prop :=
  (∀ e ∈ s.bus, e.Shaped) ∧ ∀ p, s.inFlight = some p → p.Shaped ∧ s.response = none

/-- The bus address whose sensor an operation may reach (R43); none for the pure operations. -/
def target : Instr → Option Byte
  | .cfgenc _ _ _ _ _ => some Config.cfgDevAddr
  | .init (some _) => some Config.cfgDevAddr
  | .rdtemp a true => some a
  | .fqmap _ | .cpack _ _ _ _ | .cunpack _ | .tasm _ _ | .s11f _ | .tdec _ _ | .init none | .rdtemp _ false => none

/-- The operations that touch the bus at all (R10: "the three operations that touch the bus"). -/
def usesBus : Instr → Bool
  | .cfgenc _ _ _ _ _ | .init _ | .rdtemp _ _ => true
  | .fqmap _ | .cpack _ _ _ _ | .cunpack _ | .tasm _ _ | .s11f _ | .tdec _ _ => false

/-- The most bus calls an operation makes (R123). -/
def maxCalls : Instr → Nat
  | .cfgenc _ _ _ _ _ | .init _ => 1
  | .rdtemp _ _ => 2
  | .fqmap _ | .cpack _ _ _ _ | .cunpack _ | .tasm _ _ | .s11f _ | .tdec _ _ => 0

/-- The fault-queue length an operation validates (R102). -/
def lengthChecked : Instr → Option Byte
  | .fqmap n => some n
  | .cfgenc _ n _ _ _ => some n
  | .init (some c) => some c.fqSize
  | .cpack _ _ _ _ | .cunpack _ | .tasm _ _ | .s11f _ | .tdec _ _ | .init none | .rdtemp _ _ => none

/-- The bus address of an event. -/
def BusEvent.addr : BusEvent → Byte
  | .send a _ _ => a
  | .recv a _ _ => a

/-- The error an event was answered with, if it failed. -/
def BusEvent.failure : BusEvent → Option BusErrorInfo
  | .send _ _ (.busError e) => some e
  | .recv _ _ (.busError e) => some e
  | .send _ _ (.ok _) => none
  | .recv _ _ (.ok _) => none

/-- What an operation that reaches the sensor at `a` leaves as it was: the caller's queue, and the sensor at every other address
byte. That another byte is another sensor is the model's choice (log 26), and no rule's. -/
def KeepsOthers (s t : State) (a : Byte) : Prop :=
  t.requests = s.requests ∧ ∀ x, x ≠ a → t.sensor x = s.sensor x

/-- Two states that agree on everything the block can see: the requests, the operation in flight, and what the transport will answer.
The sensors, the history, the last response and the free values may differ. -/
def SameToTheBlock (s t : State) : Prop :=
  t.requests = s.requests ∧ t.inFlight = s.inFlight ∧ t.sendAnswers = s.sendAnswers ∧ t.recvAnswers = s.recvAnswers

/-- The value of a binary32 pattern that is zero, subnormal or normal (sign bit 31, exponent 30:23 biased by 127, fraction 22:0
with a hidden leading 1: R55, "from general knowledge"; PRESUMED, log 14). -/
def binary32Value (w : BitVec 32) : ℚ :=
  let sign : ℚ := if w.getLsbD 31 then -1 else 1
  let e := (w.extractLsb' 23 8).toNat
  let f : ℚ := (w.extractLsb' 0 23).toNat
  if e = 0 then sign * f / 2 ^ 149 else sign * (1 + f / 2 ^ 23) * (2 : ℚ) ^ ((e : ℤ) - 127)

/-- The exponent field of a binary32 pattern. -/
def binary32Exponent (w : BitVec 32) : Nat := (w.extractLsb' 23 8).toNat

/-- Degrees Celsius: `k × 0.125` (R55, R81). -/
def Temperature.celsius (t : Temperature) : ℚ := t.count / 8

/-- `TENC`, the encode direction for `T = k/8`: `v = k mod 2048`, `b0 = v[10:3]`, `b1 = v[2:0] << 5` (R86). -/
def encodeTemperature (k : Int) : Byte × Byte :=
  let v := BitVec.ofInt 11 k
  (v.extractLsb' 3 8, (v.extractLsb' 0 3).setWidth 8 <<< 5)

end Sys2Proof.Machine
end

