-- ==== Sys2Proof/Certificates/Slice0/Obligations.lean ====
section
/-! DEFINITION. The statements for the provers. Each docstring names the rule of spec/ it formalises, or the sections it rests on. -/

open Sys2Proof Sys2Proof.Machine

/-! ## Requests: decoding and encoding (30_encoding.md section 7; the image is the model's own, log 1) -/

/-- Decoding the image of an instruction gives the instruction back, for all nine operations and every operand. -/
def Obligations.DecodeOfEncodeIsTheInstruction : Prop :=
  ∀ i : Instr, decode (encode i) = .ok i

/-- An image that decodes is the image of the instruction it decodes to: no image has two meanings, and no bit of one is dropped. -/
def Obligations.EncodeOfDecodeIsTheImage : Prop :=
  ∀ (bs : List Byte) (i : Instr), decode bs = .ok i → encode i = bs

/-- The decoder accepts exactly the images whose group exists and whose port values fit the port widths of R11. -/
def Obligations.DecodeAcceptsExactlyWellFormedImages : Prop :=
  ∀ bs : List Byte, (∃ i, decode bs = .ok i) ↔ imageWellFormed bs = true

/-- One image of each operation, written out from the ports of R61 and the values of 95_test_vectors.md. -/
def Obligations.DecodeReadsTheSpecsPortValues : Prop :=
  decode [0, 4] = .ok (.fqmap 4) ∧
  decode [1, 0b10, 1, 0, 0] = .ok (.cpack 0b10 1 0 0) ∧
  decode [2, 0xF4] = .ok (.cunpack 0xF4) ∧
  decode [3, 0x12, 4, 1, 0, 0] = .ok (.cfgenc 0x12 4 1 0 0) ∧
  decode [4, 0x19, 0x00] = .ok (.tasm 0x19 0x00) ∧
  decode [5, 0x06, 0x48] = .ok (.s11f 0x648) ∧
  decode [6, 0xC9, 0x1F] = .ok (.tdec 0xC9 0x1F) ∧
  decode [7, 0] = .ok (.init none) ∧
  decode [7, 1, 0x77, 2, 1, 0, 1] = .ok (.init (some ⟨0x77, 2, 1, 0, 1⟩)) ∧
  decode [8, 0x48, 1] = .ok (.rdtemp 0x48 true)

/-- A raw sample of other than two bytes; a polarity, mode or device-mode value other than 0 or 1, in CPACK, CFGENC and INIT; a code wider than
2 bits; a raw field wider than 11; and a presence bit other than 0 or 1: each is rejected by name (R34, U1, U2, D7; log 15). -/
def Obligations.MalformedPortValuesAreRejectedByName : Prop :=
  (∀ ps : List Byte, ps.length ≠ 2 →
    decode (Op.tasm.number :: ps) = .error (.sampleNotTwoBytes .tasm) ∧
    decode (Op.tdec.number :: ps) = .error (.sampleNotTwoBytes .tdec)) ∧
  (∀ c p m d : Byte,
    (4 ≤ c.toNat → decode [Op.cpack.number, c, p, m, d] = .error (.codeNotTwoBits c)) ∧
    (c.toNat < 4 → 2 ≤ p.toNat → decode [Op.cpack.number, c, p, m, d] = .error (.fieldNotBit p)) ∧
    (c.toNat < 4 → p.toNat < 2 → 2 ≤ m.toNat → decode [Op.cpack.number, c, p, m, d] = .error (.fieldNotBit m)) ∧
    (c.toNat < 4 → p.toNat < 2 → m.toNat < 2 → 2 ≤ d.toNat → decode [Op.cpack.number, c, p, m, d] = .error (.fieldNotBit d))) ∧
  (∀ (a n p m d : Byte) (head : List Byte), head = [Op.cfgenc.number] ∨ head = [Op.init.number, 1] →
    (2 ≤ p.toNat → decode (head ++ [a, n, p, m, d]) = .error (.fieldNotBit p)) ∧
    (p.toNat < 2 → 2 ≤ m.toNat → decode (head ++ [a, n, p, m, d]) = .error (.fieldNotBit m)) ∧
    (p.toNat < 2 → m.toNat < 2 → 2 ≤ d.toNat → decode (head ++ [a, n, p, m, d]) = .error (.fieldNotBit d))) ∧
  (∀ hi lo : Byte, 8 ≤ hi.toNat → decode [Op.s11f.number, hi, lo] = .error (.rawNotElevenBits hi)) ∧
  (∀ b : Byte, 2 ≤ b.toNat →
    (∀ ps : List Byte, decode (Op.init.number :: b :: ps) = .error (.presenceNotBit b)) ∧
    (∀ a : Byte, decode [Op.rdtemp.number, a, b] = .error (.presenceNotBit b)))

/-- The words of spec/opcode_table.json that name one request: CPACK's byte, CFGENC's frame (with `dev_addr` 0), RDTEMP's pointer frame,
CUNPACK's byte with a reserved bit set, and TDEC's sample with `byte0` above 7 that is no frame (the model's reading, log 19). -/
def Obligations.TableWordsReadAsTheirRequest : Prop :=
  (∀ c p m d, decodeTableWord 8 (packByte c p m d).toNat = some (.cpack c p m d)) ∧
  (∀ c p m d, decodeTableWord 16 (0x100 + (packByte c p m d).toNat) = some (.cfgenc 0 (fqSizeOf c) p m d)) ∧
  (∀ w, w < 2 ^ 16 → decodeTableWord 24 w = some (.rdtemp 0 true)) ∧
  (∀ b : Byte, 32 ≤ b.toNat → decodeTableWord 8 b.toNat = some (.cunpack b)) ∧
  (∀ b0 b1 : Byte, 8 ≤ b0.toNat → decodeTableWord 16 (256 * b0.toNat + b1.toNat) = some (.tdec b0 b1))

/-- The data word of every operation has the fixed bits its row's pattern gives it (R51, R54, R56). -/
def Obligations.DataWordsFitTheTablePatterns : Prop :=
  (∀ n ws, dataWord (.fqmap n) = some ws → ∃ b : Byte, ws = [b] ∧ b.toNat < 4) ∧
  (∀ c p m d, ∃ b : Byte, dataWord (.cpack c p m d) = some [b] ∧ b &&& 0xE0 = 0x00) ∧
  (∀ a n p m d ws, dataWord (.cfgenc a n p m d) = some ws → ∃ b : Byte, ws = [0x01, b] ∧ b &&& 0xE0 = 0x00) ∧
  (∀ c ws, dataWord (.init (some c)) = some ws → ∃ b : Byte, ws = [0x01, b] ∧ b &&& 0xE0 = 0x00) ∧
  (∀ v : Raw11, ∃ hi lo : Byte, dataWord (.s11f v) = some [hi, lo] ∧ v.toNat = 256 * hi.toNat + lo.toNat) ∧
  (∀ a, dataWord (.rdtemp a true) = some [0x00])

/-! ## The step -/

/-- The caller's next request is performed when it decodes, and taken from the queue (R35b, R59); nothing else surrounds it. -/
def Obligations.StepRunsTheDecodedRequest : Prop :=
  ∀ (s : State) (image : List Byte) (rest : List (List Byte)) (i : Instr),
    s.inFlight = none → s.requests = image :: rest → decode image = .ok i → step s = exec i { s with requests := rest }

/-- A request that no port group can carry is refused, by the name of what is wrong with it (R34, U1, U2; log 15). -/
def Obligations.StepRefusesAMalformedRequest : Prop :=
  ∀ (s : State) (image : List Byte) (rest : List (List Byte)) (why : DecodeError),
    s.inFlight = none → s.requests = image :: rest → decode image = .error why → step s = .refused (.malformedRequest why)

/-- With no request and nothing in flight a step does nothing but end the previous transaction's outputs (R11; log 17). -/
def Obligations.StepWithoutRequestIsIdle : Prop :=
  ∀ s : State, s.inFlight = none → s.requests = [] → step s = .next { s with response := none }

/-- While an operation is in flight no other starts: a step answers a next state and takes no request (R35b, R37, D16). -/
def Obligations.NoRequestIsTakenWhileInFlight : Prop :=
  ∀ (s : State) (p : InFlight), s.inFlight = some p → ∃ t, step s = .next t ∧ t.requests = s.requests

/-- The word of the table that a request is made from is what the very next step runs (log 19). -/
def Obligations.StepRunsThePlacedWord : Prop :=
  ∀ (s : State) (nbits w : Nat) (i : Instr), decodeTableWord nbits w = some i →
    step (s.withFetchWord nbits w) = exec i { s with inFlight := none }

/-! ## The configuration register encoder -/

/-- R70: FQMAP on every value of its port, and on any integer. -/
def Obligations.FqmapDeliversTheCode : Prop :=
  (∀ (n : Byte) (s : State),
    (n.toNat = 1 → exec (.fqmap n) s = .next { s with response := some ⟨.fqmap, .ok (.fqCode 0b00)⟩ }) ∧
    (n.toNat = 2 → exec (.fqmap n) s = .next { s with response := some ⟨.fqmap, .ok (.fqCode 0b01)⟩ }) ∧
    (n.toNat = 4 → exec (.fqmap n) s = .next { s with response := some ⟨.fqmap, .ok (.fqCode 0b10)⟩ }) ∧
    (n.toNat = 6 → exec (.fqmap n) s = .next { s with response := some ⟨.fqmap, .ok (.fqCode 0b11)⟩ }) ∧
    (n.toNat ≠ 1 → n.toNat ≠ 2 → n.toNat ≠ 4 → n.toNat ≠ 6 →
      exec (.fqmap n) s = .next { s with response := some ⟨.fqmap, .err .invalidArgument⟩ })) ∧
  (∀ k : Int, fqMap k = none ↔ k ≠ 1 ∧ k ≠ 2 ∧ k ≠ 4 ∧ k ≠ 6)

/-- R52: the lookup, its inverse, and the shifted codes; no other length has a code. -/
def Obligations.FaultQueueTableAndItsInverse : Prop :=
  (fqMap 1 = some 0b00 ∧ fqMap 2 = some 0b01 ∧ fqMap 4 = some 0b10 ∧ fqMap 6 = some 0b11) ∧
  (fqSizeOf 0b00 = 1 ∧ fqSizeOf 0b01 = 2 ∧ fqSizeOf 0b10 = 4 ∧ fqSizeOf 0b11 = 6) ∧
  (∀ (k : Int) (c : FqCode), fqMap k = some c ↔ k = (fqSizeOf c).toNat) ∧
  (∀ c : FqCode, (c.setWidth 8 <<< 3 : Byte).toNat = 8 * c.toNat)

/-- R71 and R51: CPACK's byte, bit by bit and as a sum; injective, with image 0x00 to 0x1F; and the formula for byte-wide fields, unmasked. -/
def Obligations.CpackAssemblesTheByte : Prop :=
  (∀ (c : FqCode) (p m d : Field) (s : State), ∃ b : Byte,
    exec (.cpack c p m d) s = .next { s with response := some ⟨.cpack, .ok (.cfgByte b)⟩ } ∧
    b = (c.setWidth 8 <<< 3) ||| (p.setWidth 8 <<< 2) ||| (m.setWidth 8 <<< 1) ||| d.setWidth 8 ∧
    b.toNat = 8 * c.toNat + 4 * p.toNat + 2 * m.toNat + d.toNat ∧
    b.extractLsb' 5 3 = 0 ∧ b.extractLsb' 3 2 = c ∧ b.extractLsb' 2 1 = p ∧ b.extractLsb' 1 1 = m ∧ b.extractLsb' 0 1 = d ∧
    b.toNat ≤ 0x1F) ∧
  (∀ (c c' : FqCode) (p p' m m' d d' : Field), packByte c p m d = packByte c' p' m' d' → c = c' ∧ p = p' ∧ m = m' ∧ d = d') ∧
  (∀ b : Byte, b.toNat ≤ 0x1F → ∃ c p m d, packByte c p m d = b) ∧
  (∀ (c : FqCode) (p m d : BitVec 8),
    (packFields 8 c p m d).toNat = ((c.toNat <<< 3) ||| (p.toNat <<< 2) ||| (m.toNat <<< 1) ||| d.toNat) % 2 ^ 8)

/-- CUNPACK (40_config_encoder.md section 1; the formula is the spec's own derivation, D11): the five outputs from bits 4:0, bits 7:5 ignored, and the two laws with CPACK. -/
def Obligations.CunpackInvertsCpack : Prop :=
  (∀ (b : Byte) (s : State), ∃ f : ConfigFields,
    exec (.cunpack b) s = .next { s with response := some ⟨.cunpack, .ok (.fields f)⟩ } ∧
    f.fqCode.toNat = b.toNat / 8 % 4 ∧
    (f.fqCode = 0b00 → f.fqSize = 1) ∧ (f.fqCode = 0b01 → f.fqSize = 2) ∧
    (f.fqCode = 0b10 → f.fqSize = 4) ∧ (f.fqCode = 0b11 → f.fqSize = 6) ∧
    f.osPol.toNat = b.toNat / 4 % 2 ∧ f.osMode.toNat = b.toNat / 2 % 2 ∧ f.devMode.toNat = b.toNat % 2 ∧
    unpackByte (b &&& 0x1F) = f ∧ packByte f.fqCode f.osPol f.osMode f.devMode = b &&& 0x1F) ∧
  (∀ (c : FqCode) (p m d : Field), unpackByte (packByte c p m d) = ⟨c, fqSizeOf c, p, m, d⟩)

/-- CFGENC (R73, in 40_config_encoder.md section 1): its three outcomes when the bus answers or is not asked. `dev_addr` appears in none of them. Of the addressed sensor's registers
the thresholds stay (R16), and nothing is said of the temperature register. That sensors at other address bytes stay is the model's choice (log 26). -/
def Obligations.CfgencValidatesPacksAndWrites : Prop :=
  ∀ (a n : Byte) (p m d : Field) (s : State), s.inFlight = none →
    (fqMap n.toNat = none →
      exec (.cfgenc a n p m d) s = .next { s with response := some ⟨.cfgenc, .err .invalidArgument⟩ }) ∧
    (∀ (c : FqCode) (rest : List (Answer Unit)), fqMap n.toNat = some c → s.sendAnswers = .ok () :: rest →
      ∃ t, exec (.cfgenc a n p m d) s = .next t ∧
        t.response = some ⟨.cfgenc, .ok (.cfgByte (packByte c p m d))⟩ ∧
        t.bus = s.bus ++ [.send Config.cfgDevAddr [0x01, packByte c p m d] (.ok ())] ∧
        t.inFlight = none ∧ t.sendAnswers = rest ∧ t.recvAnswers = s.recvAnswers ∧
        (t.sensor Config.cfgDevAddr).conf = packByte c p m d ∧ (t.sensor Config.cfgDevAddr).ptr = 0x01 ∧
        (t.sensor Config.cfgDevAddr).hyst = (s.sensor Config.cfgDevAddr).hyst ∧
        (t.sensor Config.cfgDevAddr).overtemp = (s.sensor Config.cfgDevAddr).overtemp ∧
        KeepsOthers s t Config.cfgDevAddr) ∧
    (∀ (c : FqCode) (e : BusErrorInfo) (rest : List (Answer Unit)), fqMap n.toNat = some c → s.sendAnswers = .busError e :: rest →
      ∃ t, exec (.cfgenc a n p m d) s = .next t ∧
        t.response = some ⟨.cfgenc, .err (.busError e)⟩ ∧
        t.bus = s.bus ++ [.send Config.cfgDevAddr [0x01, packByte c p m d] (.busError e)] ∧
        t.inFlight = none ∧ t.sendAnswers = rest ∧ t.recvAnswers = s.recvAnswers ∧ KeepsOthers s t Config.cfgDevAddr)

/-- R75: the source's two testable properties of the encoder; "no write issued" is the whole state unchanged but for the response. -/
def Obligations.EncoderTestableProperties : Prop :=
  (fqMap 1 = some 0b00 ∧ fqMap 2 = some 0b01 ∧ fqMap 4 = some 0b10 ∧ fqMap 6 = some 0b11) ∧
  (∀ (a n : Byte) (p m d : Field) (s : State), s.inFlight = none →
    n.toNat ≠ 1 → n.toNat ≠ 2 → n.toNat ≠ 4 → n.toNat ≠ 6 →
    exec (.cfgenc a n p m d) s = .next { s with response := some ⟨.cfgenc, .err .invalidArgument⟩ }) ∧
  (∀ k : Int, k ≠ 1 → k ≠ 2 → k ≠ 4 → k ≠ 6 → fqMap k = none) ∧
  (∀ (c : FqCode) (p m d : Field),
    (packByte c p m d).extractLsb' 0 3 = (p.setWidth 3 <<< 2) ||| (m.setWidth 3 <<< 1) ||| d.setWidth 3)

/-! ## The temperature decoder -/

/-- R80: TASM's field, the low five bits of byte 1 without effect, bit 10 the source's sign bit. -/
def Obligations.TasmAssemblesTheField : Prop :=
  ∀ (b0 b1 : Byte) (s : State), ∃ v : Raw11,
    exec (.tasm b0 b1) s = .next { s with response := some ⟨.tasm, .ok (.raw11 v)⟩ } ∧
    v = (b0.setWidth 11 <<< 3) ||| (b1 >>> 5).setWidth 11 ∧
    v = b0 ++ b1.extractLsb' 5 3 ∧
    v.toNat = 8 * b0.toNat + b1.toNat / 32 ∧
    assemble11 b0 (b1 &&& 0xE0) = v ∧
    v.getLsbD 10 = b0.getLsbD 7

/-- R54: the two terms, their OR as a sum and as a slice, and each field from exactly 32 pairs of bytes. -/
def Obligations.FieldComesFromExactly32Pairs : Prop :=
  (∀ b0 b1 : Byte,
    (b0.setWidth 11 <<< 3 : Raw11).toNat = 8 * b0.toNat ∧ (b0.setWidth 11 <<< 3 : Raw11).toNat ≤ 0x7F8 ∧
    (b1 >>> 5).toNat ≤ 7 ∧
    assemble11 b0 b1 = (b0.setWidth 11 <<< 3) + (b1 >>> 5).setWidth 11 ∧
    assemble11 b0 b1 = b0 ++ b1.extractLsb' 5 3) ∧
  (∀ v : Raw11, Nat.card { p : Byte × Byte // assemble11 p.1 p.2 = v } = 32)

/-- R81: S11F on every field, by the closed form and by the source's invert, add one, negate; both output ports; never negative zero. -/
def Obligations.S11fDeliversTheSignedEighths : Prop :=
  ∀ (v : Raw11) (s : State), ∃ t : Temperature,
    exec (.s11f v) s = .next { s with response := some ⟨.s11f, .ok (.temperature t)⟩ } ∧
    t.count = (if v.toNat < 1024 then (v.toNat : Int) else (v.toNat : Int) - 2048) ∧
    (v.getLsbD 10 = true → t.count = -((((v.toNat ^^^ 0x7FF) + 1 : Nat)) : Int)) ∧
    (v.getLsbD 10 = false → t.count = v.toNat) ∧
    t.celsius = (t.count : ℚ) * 0.125 ∧
    t.tempF32 = f32 t.count ∧
    t.tempF32 ≠ 0x80000000

/-- R82: TDEC is S11F of TASM; its value; the sign from byte 0; each value on exactly 32 pairs; and the corrected second case, -55.0. -/
def Obligations.TdecDecodesTheTwoBytes : Prop :=
  (∀ (b0 b1 : Byte) (s : State), ∃ t : Temperature,
    exec (.tdec b0 b1) s = .next { s with response := some ⟨.tdec, .ok (.temperature t)⟩ } ∧
    t = decode11 (assemble11 b0 b1) ∧
    t.count = (if b0.toNat < 128 then ((8 * b0.toNat + b1.toNat / 32 : Nat) : Int) else ((8 * b0.toNat + b1.toNat / 32 : Nat) : Int) - 2048) ∧
    t.celsius = (t.count : ℚ) / 8 ∧
    decodeSample b0 (b1 &&& 0xE0) = t ∧
    (t.celsius < 0 ↔ 0x80 ≤ b0.toNat) ∧
    Nat.card { p : Byte × Byte // decodeSample p.1 p.2 = t } = 32) ∧
  (decodeSample 0xC9 0x00).celsius = -55

/-- The ports agree and are exact: `temp_q3` is the field itself, the binary32 pattern has the value `k/8`, and it is zero or a normal
number with its exponent between 124 and 134 (R55, R83, R84; what a pattern means is general knowledge, log 14). -/
def Obligations.TemperaturePortsAreExact : Prop :=
  ∀ v : Raw11,
    (decode11 v).tempQ3 = v ∧
    binary32Value (decode11 v).tempF32 = (decode11 v).celsius ∧
    (v = 0 → (decode11 v).tempF32 = 0) ∧
    (v ≠ 0 → 124 ≤ binary32Exponent (decode11 v).tempF32 ∧ binary32Exponent (decode11 v).tempF32 ≤ 134)

/-- R85: the decoder's values are exactly `k/8` for `k` from -1024 to 1023, with no clamp and no error. -/
def Obligations.DecoderRangeIsExactly2048Values : Prop :=
  (∀ b0 b1 : Byte, -128 ≤ (decodeSample b0 b1).celsius ∧ (decodeSample b0 b1).celsius ≤ 127.875) ∧
  (∀ q : ℚ, (∃ b0 b1 : Byte, (decodeSample b0 b1).celsius = q) ↔ ∃ k : Int, -1024 ≤ k ∧ k ≤ 1023 ∧ q = (k : ℚ) / 8) ∧
  (∀ (b0 b1 : Byte) (s : State), exec (.tdec b0 b1) s =
    .next { s with response := some ⟨.tdec, .ok (.temperature (decodeSample b0 b1))⟩ })

/-- 41_temperature_decoder.md section 2, the source's round trip (its encode direction is the spec's own derivation): the round trip through the wire format, -128.0 included, with the low five bits of byte 1 zero; the closed form on every pair of bytes and on every field. -/
def Obligations.TemperatureRoundTrip : Prop :=
  (∀ k : Int, -1024 ≤ k → k ≤ 1023 →
    (decodeSample (encodeTemperature k).1 (encodeTemperature k).2).count = k ∧
    (decodeSample (encodeTemperature k).1 (encodeTemperature k).2).celsius = (k : ℚ) / 8 ∧
    (encodeTemperature k).2 &&& 0x1F = 0) ∧
  (∀ b0 b1 : Byte, (decodeSample b0 b1).count = (assemble11 b0 b1).toInt) ∧
  (∀ v : Raw11, (decode11 v).celsius = (v.toInt : ℚ) / 8)

/-- 41_temperature_decoder.md section 2 (the spec's own derivation from R81): increasing on each half, the second half below the first, symmetric but for 0x400, and adjacent fields 0.125 apart. -/
def Obligations.DecoderIsMonotoneAndSymmetric : Prop :=
  (∀ v w : Raw11, v.toNat < w.toNat → w.toNat ≤ 0x3FF → (decode11 v).celsius < (decode11 w).celsius) ∧
  (∀ v w : Raw11, 0x400 ≤ v.toNat → v.toNat < w.toNat → (decode11 v).celsius < (decode11 w).celsius) ∧
  (∀ v w : Raw11, v.toNat ≤ 0x3FF → 0x400 ≤ w.toNat → (decode11 w).celsius < (decode11 v).celsius) ∧
  (∀ v : Raw11, v ≠ 0x400 →
    (decode11 v).celsius + (decode11 (BitVec.ofNat 11 ((2048 - v.toNat) % 2048))).celsius = 0) ∧
  (∀ v : Raw11, v ≠ 0x3FF → (decode11 (v + 1)).celsius - (decode11 v).celsius = 0.125)

/-! ## The driver sequences -/

/-- INIT (R90, in 42_driver_sequences.md section 1): its four outcomes, in the order of its checks; the write goes to `CFG_DEV_ADDR` whatever the record names, and touches no threshold.
That sensors at other address bytes stay is the model's choice (log 26). -/
def Obligations.InitConfiguresTheSensor : Prop :=
  ∀ s : State, s.inFlight = none →
    exec (.init none) s = .next { s with response := some ⟨.init, .err .nullArgument⟩ } ∧
    (∀ c : DeviceConfig, fqMap c.fqSize.toNat = none →
      exec (.init (some c)) s = .next { s with response := some ⟨.init, .err .invalidArgument⟩ }) ∧
    (∀ (c : DeviceConfig) (q : FqCode) (rest : List (Answer Unit)), fqMap c.fqSize.toNat = some q → s.sendAnswers = .ok () :: rest →
      ∃ t, exec (.init (some c)) s = .next t ∧
        t.response = some ⟨.init, .ok .unit⟩ ∧
        t.bus = s.bus ++ [.send Config.cfgDevAddr [0x01, packByte q c.osPol c.osMode c.devMode] (.ok ())] ∧
        t.inFlight = none ∧ t.sendAnswers = rest ∧ t.recvAnswers = s.recvAnswers ∧
        (t.sensor Config.cfgDevAddr).conf = packByte q c.osPol c.osMode c.devMode ∧
        (t.sensor Config.cfgDevAddr).ptr = 0x01 ∧
        (t.sensor Config.cfgDevAddr).hyst = (s.sensor Config.cfgDevAddr).hyst ∧
        (t.sensor Config.cfgDevAddr).overtemp = (s.sensor Config.cfgDevAddr).overtemp ∧
        KeepsOthers s t Config.cfgDevAddr) ∧
    (∀ (c : DeviceConfig) (q : FqCode) (e : BusErrorInfo) (rest : List (Answer Unit)),
      fqMap c.fqSize.toNat = some q → s.sendAnswers = .busError e :: rest →
      ∃ t, exec (.init (some c)) s = .next t ∧
        t.response = some ⟨.init, .err (.busError e)⟩ ∧
        t.bus = s.bus ++ [.send Config.cfgDevAddr [0x01, packByte q c.osPol c.osMode c.devMode] (.busError e)] ∧
        t.inFlight = none ∧ t.sendAnswers = rest ∧ t.recvAnswers = s.recvAnswers ∧ KeepsOthers s t Config.cfgDevAddr)

/-- RDTEMP (R91, in 42_driver_sequences.md section 1): its four outcomes: null destination; step 1 fails and step 2 is not attempted; step 2 fails and nothing is decoded; success,
with the bytes in arrival order; and the pointer becomes 0x00 by step 1's successful send. That sensors at other address bytes stay is the model's
choice (log 26). -/
def Obligations.RdtempReadsAndDecodes : Prop :=
  ∀ (a : Byte) (s : State), s.inFlight = none →
    exec (.rdtemp a false) s = .next { s with response := some ⟨.rdtemp, .err .nullArgument⟩ } ∧
    (∀ (e : BusErrorInfo) (rest : List (Answer Unit)), s.sendAnswers = .busError e :: rest →
      ∃ t, exec (.rdtemp a true) s = .next t ∧
        t.response = some ⟨.rdtemp, .err (.busError e)⟩ ∧
        t.bus = s.bus ++ [.send a [0x00] (.busError e)] ∧
        t.inFlight = none ∧ t.sendAnswers = rest ∧ t.recvAnswers = s.recvAnswers ∧ KeepsOthers s t a) ∧
    (∀ (e : BusErrorInfo) (rest : List (Answer Unit)) (rest' : List (Answer (Byte × Byte))),
      s.sendAnswers = .ok () :: rest → s.recvAnswers = .busError e :: rest' →
      ∃ t, exec (.rdtemp a true) s = .next t ∧
        t.response = some ⟨.rdtemp, .err (.busError e)⟩ ∧
        t.bus = s.bus ++ [.send a [0x00] (.ok ()), .recv a 2 (.busError e)] ∧
        t.inFlight = none ∧ t.sendAnswers = rest ∧ t.recvAnswers = rest' ∧ KeepsOthers s t a) ∧
    (∀ (b0 b1 : Byte) (rest : List (Answer Unit)) (rest' : List (Answer (Byte × Byte))),
      s.sendAnswers = .ok () :: rest → s.recvAnswers = .ok (b0, b1) :: rest' →
      ∃ t, exec (.rdtemp a true) s = .next t ∧
        t.response = some ⟨.rdtemp, .ok (.temperature (decode11 (assemble11 b0 b1)))⟩ ∧
        t.bus = s.bus ++ [.send a [0x00] (.ok ()), .recv a 2 (.ok (b0, b1))] ∧
        t.inFlight = none ∧ t.sendAnswers = rest ∧ t.recvAnswers = rest' ∧ KeepsOthers s t a) ∧
    (∀ rest : List (Answer Unit), s.sendAnswers = .ok () :: rest → ((busSend a [0x00] s).2.sensor a).ptr = 0x00)

/-- A bus call that has not returned leaves its operation in flight at its place with no result and no event, and a step leaves it there for as
long as the transport does not answer (20_memory.md section 5, D19; log 4). -/
def Obligations.UnansweredCallsLeaveTheOperationInFlight : Prop :=
  (∀ (a n : Byte) (p m d : Field) (c : FqCode) (s : State), s.inFlight = none → s.sendAnswers = [] → fqMap n.toNat = some c →
    (∃ t, exec (.cfgenc a n p m d) s = .next t ∧
      t.inFlight = some (.configWrite .cfgenc (packByte c p m d)) ∧ t.response = none ∧ t.bus = s.bus) ∧
    (∃ t, exec (.init (some ⟨a, n, p, m, d⟩)) s = .next t ∧
      t.inFlight = some (.configWrite .init (packByte c p m d)) ∧ t.response = none ∧ t.bus = s.bus)) ∧
  (∀ (a : Byte) (s : State), s.inFlight = none → s.sendAnswers = [] →
    ∃ t, exec (.rdtemp a true) s = .next t ∧ t.inFlight = some (.tempPointer a) ∧ t.response = none ∧ t.bus = s.bus) ∧
  (∀ (a : Byte) (rest : List (Answer Unit)) (s : State), s.inFlight = none → s.sendAnswers = .ok () :: rest → s.recvAnswers = [] →
    ∃ t, exec (.rdtemp a true) s = .next t ∧ t.inFlight = some (.tempReceive a) ∧ t.response = none ∧
      t.bus = s.bus ++ [.send a [0x00] (.ok ())]) ∧
  (∀ (p : InFlight) (s : State), s.inFlight = some p → p.Unanswered s →
    ∃ t, step s = .next t ∧ t.inFlight = some p ∧ t.response = none ∧ t.bus = s.bus)

/-- An operation that waited in its first call or its second ends, when more answers come, as if they had been there at once: same response, bus
events, place and answers left; and on success the same pointers, and for a configuration the same sensor registers but the temperature
(20_memory.md sections 2 and 5: one call, answered later; log 4). -/
def Obligations.WaitingChangesNoOutcome : Prop :=
  ∀ (i : Instr) (s t : State) (sends : List (Answer Unit)) (recvs : List (Answer (Byte × Byte))),
    s.inFlight = none → exec i s = .next t → t.inFlight ≠ none →
    ∃ u v, step { t with sendAnswers := t.sendAnswers ++ sends, recvAnswers := t.recvAnswers ++ recvs } = .next u ∧
      exec i { s with sendAnswers := s.sendAnswers ++ sends, recvAnswers := s.recvAnswers ++ recvs } = .next v ∧
      u.response = v.response ∧ u.inFlight = v.inFlight ∧ u.bus = v.bus ∧
      u.sendAnswers = v.sendAnswers ∧ u.recvAnswers = v.recvAnswers ∧
      (∀ p, u.response = some ⟨i.op, .ok p⟩ → ∀ x : Byte, (u.sensor x).ptr = (v.sensor x).ptr ∧
        (configures i = true → (u.sensor x).conf = (v.sensor x).conf ∧ (u.sensor x).hyst = (v.sensor x).hyst ∧
          (u.sensor x).overtemp = (v.sensor x).overtemp))

/-- An operation in flight goes on when its call is answered, and the call is one event: it ends with the result the answer makes of it when that
was its last call, and RDTEMP's answered send is followed by its receive, in which it ends or waits
(20_memory.md section 5, 42_driver_sequences.md section 1; log 4). That sensors at other address bytes stay is the model's choice (log 26). -/
def Obligations.InFlightOperationEndsWhenAnswered : Prop :=
  (∀ (caller : ConfigCaller) (b : Byte) (s : State) (ans : Answer Unit) (rest : List (Answer Unit)),
    s.inFlight = some (.configWrite caller b) → s.sendAnswers = ans :: rest →
    ∃ t, step s = .next t ∧ t.inFlight = none ∧ t.sendAnswers = rest ∧ KeepsOthers s t Config.cfgDevAddr ∧
      t.bus = s.bus ++ [.send Config.cfgDevAddr [0x01, b] ans] ∧
      (ans = .ok () → t.response = some ⟨caller.op, .ok (caller.payload b)⟩ ∧
        (t.sensor Config.cfgDevAddr).conf = b ∧ (t.sensor Config.cfgDevAddr).ptr = 0x01 ∧
        (t.sensor Config.cfgDevAddr).hyst = (s.sensor Config.cfgDevAddr).hyst ∧
        (t.sensor Config.cfgDevAddr).overtemp = (s.sensor Config.cfgDevAddr).overtemp) ∧
      (∀ e, ans = .busError e → t.response = some ⟨caller.op, .err (.busError e)⟩)) ∧
  (∀ (a : Byte) (s : State) (e : BusErrorInfo) (rest : List (Answer Unit)),
    s.inFlight = some (.tempPointer a) → s.sendAnswers = .busError e :: rest →
    ∃ t, step s = .next t ∧ t.inFlight = none ∧ t.response = some ⟨.rdtemp, .err (.busError e)⟩ ∧
      t.sendAnswers = rest ∧ t.recvAnswers = s.recvAnswers ∧
      t.bus = s.bus ++ [.send a [0x00] (.busError e)] ∧ KeepsOthers s t a) ∧
  (∀ (a b0 b1 : Byte) (s : State) (rest : List (Answer Unit)) (rest' : List (Answer (Byte × Byte))),
    s.inFlight = some (.tempPointer a) → s.sendAnswers = .ok () :: rest → s.recvAnswers = .ok (b0, b1) :: rest' →
    ∃ t, step s = .next t ∧ t.inFlight = none ∧ t.response = some ⟨.rdtemp, .ok (.temperature (decodeSample b0 b1))⟩ ∧
      t.sendAnswers = rest ∧ t.recvAnswers = rest' ∧
      t.bus = s.bus ++ [.send a [0x00] (.ok ()), .recv a 2 (.ok (b0, b1))] ∧ KeepsOthers s t a) ∧
  (∀ (a : Byte) (s : State) (e : BusErrorInfo) (rest : List (Answer Unit)) (rest' : List (Answer (Byte × Byte))),
    s.inFlight = some (.tempPointer a) → s.sendAnswers = .ok () :: rest → s.recvAnswers = .busError e :: rest' →
    ∃ t, step s = .next t ∧ t.inFlight = none ∧ t.response = some ⟨.rdtemp, .err (.busError e)⟩ ∧
      t.sendAnswers = rest ∧ t.recvAnswers = rest' ∧
      t.bus = s.bus ++ [.send a [0x00] (.ok ()), .recv a 2 (.busError e)] ∧ KeepsOthers s t a) ∧
  (∀ (a : Byte) (s : State) (rest : List (Answer Unit)),
    s.inFlight = some (.tempPointer a) → s.sendAnswers = .ok () :: rest → s.recvAnswers = [] →
    ∃ t, step s = .next t ∧ t.inFlight = some (.tempReceive a) ∧ t.response = none ∧
      t.sendAnswers = rest ∧ t.recvAnswers = [] ∧
      t.bus = s.bus ++ [.send a [0x00] (.ok ())] ∧ KeepsOthers s t a) ∧
  (∀ (a : Byte) (s : State) (ans : Answer (Byte × Byte)) (rest' : List (Answer (Byte × Byte))),
    s.inFlight = some (.tempReceive a) → s.recvAnswers = ans :: rest' →
    ∃ t, step s = .next t ∧ t.inFlight = none ∧ t.recvAnswers = rest' ∧ t.sendAnswers = s.sendAnswers ∧ KeepsOthers s t a ∧
      t.bus = s.bus ++ [.recv a 2 ans] ∧
      (∀ b0 b1, ans = .ok (b0, b1) → t.response = some ⟨.rdtemp, .ok (.temperature (decodeSample b0 b1))⟩) ∧
      (∀ e, ans = .busError e → t.response = some ⟨.rdtemp, .err (.busError e)⟩))

/-- R43: which bus address each operation's calls use; the address named in a configuration has no effect at all. -/
def Obligations.EachOperationUsesItsAddress : Prop :=
  (∀ (i : Instr) (s t : State), exec i s = .next t →
    ∃ new, t.bus = s.bus ++ new ∧ ∀ e ∈ new, target i = some e.addr) ∧
  (∀ (a a' n : Byte) (p m d : Field) (s : State),
    exec (.cfgenc a n p m d) s = exec (.cfgenc a' n p m d) s ∧
    exec (.init (some ⟨a, n, p, m, d⟩)) s = exec (.init (some ⟨a', n, p, m, d⟩)) s)

/-! ## Errors -/

/-- R57: the four outcomes and their codes, the code that `status` shows for a success and for each error kind on every operation that has the
port, and the transport's error on `bus_err` unchanged. -/
def Obligations.StatusCodesAndBusErr : Prop :=
  (∀ o : Status, o = .ok ∨ o = .nullArgument ∨ o = .invalidArgument ∨ o = .busError) ∧
  Status.ok.code = 0b00 ∧ Status.nullArgument.code = 0b01 ∧ Status.invalidArgument.code = 0b10 ∧ Status.busError.code = 0b11 ∧
  (∀ op : Op, hasStatusPort op = true ↔ op = .fqmap ∨ op = .cfgenc ∨ op = .init ∨ op = .rdtemp) ∧
  (∀ op : Op, hasStatusPort op = true →
    (∀ p : Payload, (Response.mk op (.ok p)).statusPort = some 0b00) ∧
    (Response.mk op (.err .nullArgument)).statusPort = some 0b01 ∧
    (Response.mk op (.err .invalidArgument)).statusPort = some 0b10 ∧
    (∀ e : BusErrorInfo, (Response.mk op (.err (.busError e))).statusPort = some 0b11)) ∧
  (∀ (op : Op) (e : BusErrorInfo), (Response.mk op (.err (.busError e))).busErrPort = some e)

/-- R100, R101, R102, R103: each error kind arises only where its row says, for its cause, with the bus calls made before it, and a `BusError`
carries what the failing call was answered; and wherever a cause is present the operation's whole result is its error. -/
def Obligations.ErrorsArisePreciselyAsTabled : Prop :=
  (∀ (i : Instr) (s t : State) (op : Op) (k : ErrorKind), exec i s = .next t → t.response = some ⟨op, .err k⟩ → op = i.op ∧
    (k = .nullArgument → (i = .init none ∨ ∃ a, i = .rdtemp a false) ∧ t.bus = s.bus) ∧
    (k = .invalidArgument → (∃ n, lengthChecked i = some n ∧ n.toNat ≠ 1 ∧ n.toNat ≠ 2 ∧ n.toNat ≠ 4 ∧ n.toNat ≠ 6) ∧ t.bus = s.bus) ∧
    (∀ e, k = .busError e → usesBus i = true ∧ ∃ before failing, t.bus = s.bus ++ before ++ [failing] ∧ failing.failure = some e ∧
      (before = [] ∨ ∃ a, i = .rdtemp a true ∧ before = [.send a [0x00] (.ok ())]))) ∧
  (∀ (i : Instr) (s t : State), exec i s = .next t →
    (i = .init none ∨ (∃ a, i = .rdtemp a false) → t.response = some ⟨i.op, .err .nullArgument⟩) ∧
    (∀ n, lengthChecked i = some n → n.toNat ≠ 1 → n.toNat ≠ 2 → n.toNat ≠ 4 → n.toNat ≠ 6 →
      t.response = some ⟨i.op, .err .invalidArgument⟩) ∧
    (∀ new ev e, t.bus = s.bus ++ new → ev ∈ new → ev.failure = some e → t.response = some ⟨i.op, .err (.busError e)⟩))

/-- R104: the five pure operations other than FQMAP raise nothing in any state, and RDTEMP's third step cannot fail. -/
def Obligations.PureConversionsRaiseNothing : Prop :=
  (∀ (i : Instr) (s : State), i.op = .tdec ∨ i.op = .tasm ∨ i.op = .s11f ∨ i.op = .cpack ∨ i.op = .cunpack →
    ∃ p : Payload, exec i s = .next { s with response := some ⟨i.op, .ok p⟩ }) ∧
  (∀ (a b0 b1 : Byte) (s : State) (rest : List (Answer Unit)) (rest' : List (Answer (Byte × Byte))), s.inFlight = none →
    s.sendAnswers = .ok () :: rest → s.recvAnswers = .ok (b0, b1) :: rest' →
    ∃ t x, exec (.rdtemp a true) s = .next t ∧ t.response = some ⟨.rdtemp, .ok (.temperature x)⟩)

/-- R105: the first check that fails is the one reported, and no later one is tried. -/
def Obligations.FirstFailingCheckWins : Prop :=
  ∀ (s : State) (e e' : BusErrorInfo) (rest : List (Answer Unit)) (rest' : List (Answer (Byte × Byte))),
    s.inFlight = none → s.sendAnswers = .busError e :: rest → s.recvAnswers = .busError e' :: rest' →
    exec (.init none) s = .next { s with response := some ⟨.init, .err .nullArgument⟩ } ∧
    (∀ (a n : Byte) (p m d : Field), fqMap n.toNat = none →
      exec (.init (some ⟨a, n, p, m, d⟩)) s = .next { s with response := some ⟨.init, .err .invalidArgument⟩ } ∧
      exec (.cfgenc a n p m d) s = .next { s with response := some ⟨.cfgenc, .err .invalidArgument⟩ }) ∧
    (∀ (a n : Byte) (p m d : Field) (c : FqCode), fqMap n.toNat = some c →
      (∃ t, exec (.init (some ⟨a, n, p, m, d⟩)) s = .next t ∧ t.response = some ⟨.init, .err (.busError e)⟩) ∧
      (∃ t, exec (.cfgenc a n p m d) s = .next t ∧ t.response = some ⟨.cfgenc, .err (.busError e)⟩)) ∧
    (∀ a : Byte,
      exec (.rdtemp a false) s = .next { s with response := some ⟨.rdtemp, .err .nullArgument⟩ } ∧
      ∃ t, exec (.rdtemp a true) s = .next t ∧ t.response = some ⟨.rdtemp, .err (.busError e)⟩ ∧ t.recvAnswers = s.recvAnswers)

/-- An error saves and switches nothing: `NullArgument` and `InvalidArgument` change only the response, and after any error nothing is in flight,
so the next operation runs by the same rules (60_exceptions.md sections 4 and 5, 20_memory.md R41). -/
def Obligations.ErrorsLeaveTheBlockAsBefore : Prop :=
  ∀ (i : Instr) (s t : State) (op : Op) (k : ErrorKind), s.inFlight = none → exec i s = .next t → t.response = some ⟨op, .err k⟩ →
    t.inFlight = none ∧ t.requests = s.requests ∧
    (k = .nullArgument ∨ k = .invalidArgument → t = { s with response := some ⟨op, .err k⟩ })

/-! ## Rules of the whole machine -/

/-- Every step keeps the bus traffic to the three shapes of transaction, and an operation in flight without a result (20_memory.md section 2). -/
def Obligations.StepKeepsTheBusShapes : Prop :=
  ∀ s t : State, s.Inv → step s = .next t → t.Inv

/-- The invariant holds right after reset. -/
def Obligations.ResetMeetsTheBusShapes : Prop := State.reset.Inv

/-- What reset leaves: no request, nothing in flight, no output, no answer, no event, and every sensor register a draw
(10_state.md section 10; the model's choice, log 6, 20 and 21). -/
def Obligations.ResetLeavesSensorsUnspecified : Prop :=
  State.reset.requests = [] ∧ State.reset.inFlight = none ∧ State.reset.response = none ∧ State.reset.sendAnswers = [] ∧
  State.reset.recvAnswers = [] ∧ State.reset.bus = [] ∧ State.reset.freeCount = 0 ∧
  ∀ a : Byte, State.reset.sensor a =
    ⟨Config.resetPtr a, Config.resetConf a, Config.resetTemp a, Config.resetHyst a, Config.resetOvertemp a⟩

/-- The block depends on nothing but its inputs: two states that agree on the requests, the operation in flight and the transport's answers
step alike, whatever the sensors, the history, the last response and the free values are, and go on agreeing
(10_state.md section 1, 20_memory.md section 2). -/
def Obligations.StepIgnoresSensorsAndHistory : Prop :=
  ∀ s₁ s₂ : State, SameToTheBlock s₁ s₂ →
    (∀ t₁, step s₁ = .next t₁ →
      ∃ t₂ new, step s₂ = .next t₂ ∧ SameToTheBlock t₁ t₂ ∧ t₂.response = t₁.response ∧ t₁.bus = s₁.bus ++ new ∧ t₂.bus = s₂.bus ++ new) ∧
    (∀ r, step s₁ = .refused r → step s₂ = .refused r)

/-- R10: an operation is a function of its inputs and of the transport's answers, before or after any other operation, and when it is over
nothing of it is kept. -/
def Obligations.OperationsKeepNothingBetweenCalls : Prop :=
  ∀ (i : Instr) (s₁ s₂ t₁ : State), s₁.inFlight = none → s₂.inFlight = none →
    s₂.sendAnswers = s₁.sendAnswers → s₂.recvAnswers = s₁.recvAnswers → exec i s₁ = .next t₁ →
    ∃ t₂ new, exec i s₂ = .next t₂ ∧ t₂.response = t₁.response ∧ t₂.inFlight = t₁.inFlight ∧
      t₁.bus = s₁.bus ++ new ∧ t₂.bus = s₂.bus ++ new ∧ (t₁.response ≠ none → t₁.inFlight = none)

/-- R76 and R88: the six pure operations read nothing but their operands and write nothing: in any two states they give the same result and change
nothing else. CFGENC's result depends on its operands and the one answer. -/
def Obligations.PureOperationsReadOnlyTheirOperands : Prop :=
  (∀ i : Instr, usesBus i = false → ∃ r : Result, ∀ s : State, exec i s = .next { s with response := some ⟨i.op, r⟩ }) ∧
  (∀ (a n : Byte) (p m d : Field) (ans : Answer Unit) (s₁ s₂ t₁ : State) (rest₁ rest₂ : List (Answer Unit)),
    s₁.inFlight = none → s₂.inFlight = none → s₁.sendAnswers = ans :: rest₁ → s₂.sendAnswers = ans :: rest₂ →
    exec (.cfgenc a n p m d) s₁ = .next t₁ → ∃ t₂, exec (.cfgenc a n p m d) s₂ = .next t₂ ∧ t₂.response = t₁.response)

/-- The frame of every operation: the caller's queue, every sensor but the one addressed, and all of the state but the response when no bus call is made;
answers are only used up in order and events only appended (R10, R33, R35, R43). That another address byte is another sensor is the model's
choice (log 26). -/
def Obligations.FrameOfEveryOperation : Prop :=
  ∀ (i : Instr) (s t : State), exec i s = .next t →
    t.requests = s.requests ∧
    (∀ a, target i ≠ some a → t.sensor a = s.sensor a) ∧
    (target i = none → t = { s with response := t.response }) ∧
    (∃ n, t.sendAnswers = s.sendAnswers.drop n) ∧ (∃ n, t.recvAnswers = s.recvAnswers.drop n) ∧
    (∃ new, t.bus = s.bus ++ new ∧ new.length ≤ maxCalls i)

/-- If the transport answers every call, every operation returns a result, after at most its one or two calls (70_reset_and_hazards.md section 4). -/
def Obligations.OperationsReturnWhenTheBusAnswers : Prop :=
  ∀ (i : Instr) (s : State), s.inFlight = none → s.sendAnswers ≠ [] → s.recvAnswers ≠ [] →
    ∃ t new, exec i s = .next t ∧ t.response ≠ none ∧ t.inFlight = none ∧ t.bus = s.bus ++ new ∧ new.length ≤ maxCalls i

/-- Every operation runs: with nothing in flight `exec` answers a next state for all nine; with one in flight only CFGENC, INIT and RDTEMP
stop, by name (U8; log 16). -/
def Obligations.ExecStopsOnlyOnASecondBusOperation : Prop :=
  (∀ (i : Instr) (s : State), s.inFlight = none → ∃ t, exec i s = .next t) ∧
  (∀ (i : Instr) (s : State) (p : InFlight), s.inFlight = some p →
    (usesBus i = true → exec i s = .refused .operationInFlight) ∧ (usesBus i = false → ∃ t, exec i s = .next t))

/-- Which output ports hold a value in which outcome (R11, R61, 30_encoding.md section 7): a success drives its operation's ports; an error drives
none but `status`, with its own code, and for a `BusError` `bus_err`, with the transport's error; five operations have no `status`. -/
def Obligations.OutputPortsByOutcome : Prop :=
  ∀ (i : Instr) (s t : State) (r : Response), exec i s = .next t → t.response = some r → r.op = i.op ∧
    (∀ k, r.result = .err k → r.fqCodePort = none ∧ r.fqSizePort = none ∧ r.bitPorts = none ∧ r.cfgBytePort = none ∧ r.raw11Port = none ∧
      r.tempQ3Port = none ∧ r.tempF32Port = none ∧
      (k = .nullArgument → r.statusPort = some 0b01 ∧ r.busErrPort = none) ∧
      (k = .invalidArgument → r.statusPort = some 0b10 ∧ r.busErrPort = none) ∧
      (∀ e, k = .busError e → r.statusPort = some 0b11 ∧ r.busErrPort = some e)) ∧
    (r.statusPort = none ↔ i.op = .cpack ∨ i.op = .cunpack ∨ i.op = .tasm ∨ i.op = .s11f ∨ i.op = .tdec) ∧
    (∀ p, r.result = .ok p → r.busErrPort = none ∧
      (r.fqCodePort.isSome = true ↔ i.op = .fqmap ∨ i.op = .cunpack) ∧
      (r.fqSizePort.isSome = true ↔ i.op = .cunpack) ∧ (r.bitPorts.isSome = true ↔ i.op = .cunpack) ∧
      (r.cfgBytePort.isSome = true ↔ i.op = .cpack ∨ i.op = .cfgenc) ∧
      (r.raw11Port.isSome = true ↔ i.op = .tasm) ∧
      (r.tempQ3Port.isSome = true ↔ i.op = .s11f ∨ i.op = .tdec ∨ i.op = .rdtemp) ∧
      (r.tempF32Port.isSome = true ↔ i.op = .s11f ∨ i.op = .tdec ∨ i.op = .rdtemp) ∧
      (r.statusPort = some 0b00 ↔ i.op = .fqmap ∨ i.op = .cfgenc ∨ i.op = .init ∨ i.op = .rdtemp))

/-- On the frames the block sends, a successful send leaves the sensor's pointer and configuration register as the reference device's
(20_memory.md section 6; the reference device serves tests only, log 24). -/
def Obligations.SensorFollowsTheReferenceDevice : Prop :=
  ∀ (b : Byte) (a : Byte) (temp : BitVec 16) (rest : List (Answer Unit)) (s : State) (bytes : List Byte),
    s.sendAnswers = .ok () :: rest → bytes = configFrame b ∨ bytes = pointerFrame →
    ∃ dev, RefDevice.send ⟨(s.sensor a).ptr, (s.sensor a).conf, temp⟩ bytes = some dev ∧
      ((busSend a bytes s).2.sensor a).ptr = dev.ptr ∧ ((busSend a bytes s).2.sensor a).conf = dev.conf

/-! ## What the driver sequences leave in the sensor, however long a call waited -/

/-- After step 1 of RDTEMP has succeeded its sensor's pointer is 0x00, and stays so while the receive waits and when it succeeds, however long
either call waited. R91 says only that the pointer becomes 0x00; that a receive does not move it is the model's (log 9), and that no other agent
does is its premise (log 23). -/
def Obligations.PointerIsZeroFromStepOneOn : Prop :=
  (∀ (a : Byte) (s t : State), exec (.rdtemp a true) s = .next t → PointerWritten t a → (t.sensor a).ptr = 0x00) ∧
  (∀ (a : Byte) (s t : State), s.inFlight = some (.tempPointer a) → step s = .next t → PointerWritten t a → (t.sensor a).ptr = 0x00) ∧
  (∀ (a : Byte) (s t : State), s.inFlight = some (.tempReceive a) → step s = .next t → PointerWritten t a →
    (t.sensor a).ptr = (s.sensor a).ptr)

/-- INIT and CFGENC touch no threshold of any sensor: not while their send waits, and not when it succeeds, however long it waited
(R16, R90, R121; after a failed send R41 lets the sensor be in any state; what a waiting send may change is log 7). -/
def Obligations.ThresholdsAreNeverTouchedByAConfiguration : Prop :=
  (∀ (i : Instr) (s t : State), configures i = true → exec i s = .next t →
    (∀ e, t.response ≠ some ⟨i.op, .err (.busError e)⟩) → SameThresholds s t) ∧
  (∀ (caller : ConfigCaller) (b : Byte) (s t : State), s.inFlight = some (.configWrite caller b) → step s = .next t →
    (∀ e, t.response ≠ some ⟨caller.op, .err (.busError e)⟩) → SameThresholds s t)
end

