-- ==== Sys2Proof/Laws/State.lean ====
section
/-! SUPPORT. One lemma per field per update of the state, and the laws of the sensor table. -/

namespace Sys2Proof.Machine

variable (s : State) (a b : Byte) (op : Op) (r : Result) (k : ErrorKind) (p : InFlight) (f : Nat → Sensor → Sensor) (image : List Byte)

@[simp] theorem respond_requests : (s.respond op r).requests = s.requests := rfl
@[simp] theorem respond_inFlight : (s.respond op r).inFlight = s.inFlight := rfl
@[simp] theorem respond_response : (s.respond op r).response = some { op := op, result := r } := rfl
@[simp] theorem respond_sendAnswers : (s.respond op r).sendAnswers = s.sendAnswers := rfl
@[simp] theorem respond_recvAnswers : (s.respond op r).recvAnswers = s.recvAnswers := rfl
@[simp] theorem respond_bus : (s.respond op r).bus = s.bus := rfl
@[simp] theorem respond_sensors : (s.respond op r).sensors = s.sensors := rfl
@[simp] theorem respond_freeCount : (s.respond op r).freeCount = s.freeCount := rfl
@[simp] theorem respond_sensor : (s.respond op r).sensor a = s.sensor a := rfl

/-- Returning an error is delivering it as the whole result (R106). -/
@[simp] theorem returnErr_eq_respond : s.returnErr op k = s.respond op (.err k) := rfl

@[simp] theorem await_requests : (s.await p).requests = s.requests := rfl
@[simp] theorem await_inFlight : (s.await p).inFlight = some p := rfl
@[simp] theorem await_response : (s.await p).response = none := rfl
@[simp] theorem await_sendAnswers : (s.await p).sendAnswers = s.sendAnswers := rfl
@[simp] theorem await_recvAnswers : (s.await p).recvAnswers = s.recvAnswers := rfl
@[simp] theorem await_bus : (s.await p).bus = s.bus := rfl
@[simp] theorem await_sensors : (s.await p).sensors = s.sensors := rfl
@[simp] theorem await_freeCount : (s.await p).freeCount = s.freeCount := rfl
@[simp] theorem await_sensor : (s.await p).sensor a = s.sensor a := rfl

@[simp] theorem leaveFlight_requests : s.leaveFlight.requests = s.requests := rfl
@[simp] theorem leaveFlight_inFlight : s.leaveFlight.inFlight = none := rfl
@[simp] theorem leaveFlight_response : s.leaveFlight.response = s.response := rfl
@[simp] theorem leaveFlight_sendAnswers : s.leaveFlight.sendAnswers = s.sendAnswers := rfl
@[simp] theorem leaveFlight_recvAnswers : s.leaveFlight.recvAnswers = s.recvAnswers := rfl
@[simp] theorem leaveFlight_bus : s.leaveFlight.bus = s.bus := rfl
@[simp] theorem leaveFlight_sensors : s.leaveFlight.sensors = s.sensors := rfl
@[simp] theorem leaveFlight_freeCount : s.leaveFlight.freeCount = s.freeCount := rfl
@[simp] theorem leaveFlight_sensor : s.leaveFlight.sensor a = s.sensor a := rfl

@[simp] theorem takeRequest_requests : s.takeRequest.requests = s.requests.tail := rfl
@[simp] theorem takeRequest_inFlight : s.takeRequest.inFlight = s.inFlight := rfl
@[simp] theorem takeRequest_response : s.takeRequest.response = s.response := rfl
@[simp] theorem takeRequest_sendAnswers : s.takeRequest.sendAnswers = s.sendAnswers := rfl
@[simp] theorem takeRequest_recvAnswers : s.takeRequest.recvAnswers = s.recvAnswers := rfl
@[simp] theorem takeRequest_bus : s.takeRequest.bus = s.bus := rfl
@[simp] theorem takeRequest_sensors : s.takeRequest.sensors = s.sensors := rfl
@[simp] theorem takeRequest_freeCount : s.takeRequest.freeCount = s.freeCount := rfl
@[simp] theorem takeRequest_sensor : s.takeRequest.sensor a = s.sensor a := rfl

@[simp] theorem idle_requests : s.idle.requests = s.requests := rfl
@[simp] theorem idle_inFlight : s.idle.inFlight = s.inFlight := rfl
@[simp] theorem idle_response : s.idle.response = none := rfl
@[simp] theorem idle_sendAnswers : s.idle.sendAnswers = s.sendAnswers := rfl
@[simp] theorem idle_recvAnswers : s.idle.recvAnswers = s.recvAnswers := rfl
@[simp] theorem idle_bus : s.idle.bus = s.bus := rfl
@[simp] theorem idle_sensors : s.idle.sensors = s.sensors := rfl
@[simp] theorem idle_freeCount : s.idle.freeCount = s.freeCount := rfl
@[simp] theorem idle_sensor : s.idle.sensor a = s.sensor a := rfl

@[simp] theorem onSensor_requests : (s.onSensor a f).requests = s.requests := rfl
@[simp] theorem onSensor_inFlight : (s.onSensor a f).inFlight = s.inFlight := rfl
@[simp] theorem onSensor_response : (s.onSensor a f).response = s.response := rfl
@[simp] theorem onSensor_sendAnswers : (s.onSensor a f).sendAnswers = s.sendAnswers := rfl
@[simp] theorem onSensor_recvAnswers : (s.onSensor a f).recvAnswers = s.recvAnswers := rfl
@[simp] theorem onSensor_bus : (s.onSensor a f).bus = s.bus := rfl
@[simp] theorem onSensor_freeCount : (s.onSensor a f).freeCount = s.freeCount + 1 := rfl

/-- The changed sensor reads as it was changed. -/
@[simp] theorem onSensor_sensor_same : (s.onSensor a f).sensor a = f s.freeCount (s.sensor a) := by
  simp [State.onSensor, State.sensor]

/-- Every other sensor reads as before (log 26). -/
theorem onSensor_sensor_other (h : b ≠ a) : (s.onSensor a f).sensor b = s.sensor b := by
  have hne : a.toNat ≠ b.toNat := fun e => h (BitVec.eq_of_toNat_eq e.symm)
  simp [State.onSensor, State.sensor, hne]

/-- A sensor's registers are where the sensor table is. -/
theorem sensor_congr {t : State} (h : t.sensors = s.sensors) : t.sensor a = s.sensor a := by
  simp only [State.sensor, h]

/-! ## The sensor under the block's three transactions: what each register holds -/

variable (n m : Nat) (x : Sensor) (bytes : List Byte)

@[simp] theorem afterSend_configFrame :
    Sensor.afterSend (configFrame b) n x = { x with ptr := 0x01, conf := b, temp := Config.freeTemp n } := rfl
@[simp] theorem afterSend_pointerFrame : Sensor.afterSend pointerFrame n x = { x with ptr := 0x00, temp := Config.freeTemp n } := rfl
@[simp] theorem duringSend_configFrame :
    Sensor.duringSend (configFrame b) n x =
      { x with ptr := Config.freePtr n, conf := Config.freeConf n, temp := Config.freeTemp n } := rfl
@[simp] theorem duringSend_pointerFrame :
    Sensor.duringSend pointerFrame n x = { x with ptr := Config.freePtr n, temp := Config.freeTemp n } := rfl
@[simp] theorem afterReceive_ptr : (Sensor.afterReceive n x).ptr = x.ptr := rfl
@[simp] theorem duringReceive_ptr : (Sensor.duringReceive n x).ptr = x.ptr := rfl

/-- A send that waited leaves on success the sensor that it leaves when answered at once. -/
@[simp] theorem afterSend_duringSend : Sensor.afterSend bytes n (Sensor.duringSend bytes m x) = Sensor.afterSend bytes n x := by
  unfold Sensor.afterSend Sensor.duringSend
  split <;> simp only <;> (try split) <;> rfl

/-- A receive that waited leaves on success the sensor that it leaves when answered at once. -/
@[simp] theorem afterReceive_duringReceive : Sensor.afterReceive n (Sensor.duringReceive m x) = Sensor.afterReceive n x := rfl

@[simp] theorem present_requests : (s.present image).requests = image :: s.requests := rfl
@[simp] theorem present_inFlight : (s.present image).inFlight = none := rfl
@[simp] theorem present_response : (s.present image).response = s.response := rfl
@[simp] theorem present_sendAnswers : (s.present image).sendAnswers = s.sendAnswers := rfl
@[simp] theorem present_recvAnswers : (s.present image).recvAnswers = s.recvAnswers := rfl
@[simp] theorem present_bus : (s.present image).bus = s.bus := rfl
@[simp] theorem present_sensors : (s.present image).sensors = s.sensors := rfl
@[simp] theorem present_freeCount : (s.present image).freeCount = s.freeCount := rfl
@[simp] theorem present_sensor : (s.present image).sensor a = s.sensor a := rfl

/-- At reset every sensor is a draw (log 6). -/
theorem reset_sensor : State.reset.sensor a = Sensor.reset a := by
  simp [State.reset, State.sensor]

end Sys2Proof.Machine
end

