-- ==== Sys2Proof/Laws/Ops.lean ====
section
/-! SUPPORT. For each shared operation, everything it can do, said once. -/

namespace Sys2Proof.Machine

/-! ## The transport primitives -/

/-- A send the transport has not answered: nothing is recorded, and what the send may write is free (R39; log 7). -/
theorem busSend_unanswered {s : State} (a : Byte) (bytes : List Byte) (h : s.sendAnswers = []) :
    busSend a bytes s = (none, s.onSensor a (Sensor.duringSend bytes)) := by
  simp [busSend, h]

/-- A send that succeeds: one event, one answer used, the addressed sensor written (R73, R91). -/
theorem busSend_ok {s : State} (a : Byte) (bytes : List Byte) {rest : List (Answer Unit)} (h : s.sendAnswers = .ok () :: rest) :
    busSend a bytes s =
      (some (.ok ()), ({ s with sendAnswers := rest, bus := s.bus ++ [BusEvent.send a bytes (.ok ())] } : State).onSensor a
        (Sensor.afterSend bytes)) := by
  simp [busSend, h]

/-- A send that fails: one event, one answer used, the addressed sensor in any state (R41). -/
theorem busSend_failed {s : State} (a : Byte) (bytes : List Byte) {e : BusErrorInfo} {rest : List (Answer Unit)}
    (h : s.sendAnswers = .busError e :: rest) :
    busSend a bytes s =
      (some (.busError e), ({ s with sendAnswers := rest, bus := s.bus ++ [BusEvent.send a bytes (.busError e)] } : State).onSensor a
        Sensor.arbitrary) := by
  simp [busSend, h]

/-- A receive the transport has not answered: the pointer stays (R39, R91; log 9). -/
theorem busRecv_unanswered {s : State} (a : Byte) (h : s.recvAnswers = []) :
    busRecv a s = (none, s.onSensor a Sensor.duringReceive) := by
  simp [busRecv, h]

/-- A receive that succeeds: one event, one answer used (R31, R33). -/
theorem busRecv_ok {s : State} (a : Byte) {bs : Byte × Byte} {rest : List (Answer (Byte × Byte))} (h : s.recvAnswers = .ok bs :: rest) :
    busRecv a s =
      (some (.ok bs), ({ s with recvAnswers := rest, bus := s.bus ++ [BusEvent.recv a Config.rawLen (.ok bs)] } : State).onSensor a
        Sensor.afterReceive) := by
  simp [busRecv, h]

/-- A receive that fails (R41). -/
theorem busRecv_failed {s : State} (a : Byte) {e : BusErrorInfo} {rest : List (Answer (Byte × Byte))}
    (h : s.recvAnswers = .busError e :: rest) :
    busRecv a s =
      (some (.busError e), ({ s with recvAnswers := rest, bus := s.bus ++ [BusEvent.recv a Config.rawLen (.busError e)] } : State).onSensor a
        Sensor.arbitrary) := by
  simp [busRecv, h]

/-! ## The bus steps of the sequences -/

/-- The configuration write while the call has not returned. -/
theorem configWrite_unanswered {s : State} (caller : ConfigCaller) (b : Byte) (h : s.sendAnswers = []) :
    configWrite caller b s = (s.onSensor Config.cfgDevAddr (Sensor.duringSend (configFrame b))).await (.configWrite caller b) := by
  simp [configWrite, busSend_unanswered _ _ h]

/-- The configuration write that succeeds. -/
theorem configWrite_ok {s : State} (caller : ConfigCaller) (b : Byte) {rest : List (Answer Unit)} (h : s.sendAnswers = .ok () :: rest) :
    configWrite caller b s =
      (({ s with sendAnswers := rest, bus := s.bus ++ [BusEvent.send Config.cfgDevAddr (configFrame b) (.ok ())] } : State).onSensor
        Config.cfgDevAddr (Sensor.afterSend (configFrame b))).respond caller.op (.ok (caller.payload b)) := by
  simp [configWrite, busSend_ok _ _ h]

/-- The configuration write that fails. -/
theorem configWrite_failed {s : State} (caller : ConfigCaller) (b : Byte) {e : BusErrorInfo} {rest : List (Answer Unit)}
    (h : s.sendAnswers = .busError e :: rest) :
    configWrite caller b s =
      (({ s with sendAnswers := rest, bus := s.bus ++ [BusEvent.send Config.cfgDevAddr (configFrame b) (.busError e)] } : State).onSensor
        Config.cfgDevAddr Sensor.arbitrary).respond caller.op (.err (.busError e)) := by
  simp [configWrite, busSend_failed _ _ h]

/-- RDTEMP step 2 while the call has not returned. -/
theorem receiveTemperature_unanswered {s : State} (a : Byte) (h : s.recvAnswers = []) :
    receiveTemperature a s = (s.onSensor a Sensor.duringReceive).await (.tempReceive a) := by
  simp [receiveTemperature, busRecv_unanswered _ h]

/-- RDTEMP steps 2 and 3 when the receive succeeds. -/
theorem receiveTemperature_ok {s : State} (a : Byte) {b0 b1 : Byte} {rest : List (Answer (Byte × Byte))}
    (h : s.recvAnswers = .ok (b0, b1) :: rest) :
    receiveTemperature a s =
      (({ s with recvAnswers := rest, bus := s.bus ++ [BusEvent.recv a Config.rawLen (.ok (b0, b1))] } : State).onSensor a
        Sensor.afterReceive).respond .rdtemp (.ok (.temperature (decodeSample b0 b1))) := by
  simp [receiveTemperature, busRecv_ok _ h]

/-- RDTEMP step 2 when the receive fails: nothing is decoded. -/
theorem receiveTemperature_failed {s : State} (a : Byte) {e : BusErrorInfo} {rest : List (Answer (Byte × Byte))}
    (h : s.recvAnswers = .busError e :: rest) :
    receiveTemperature a s =
      (({ s with recvAnswers := rest, bus := s.bus ++ [BusEvent.recv a Config.rawLen (.busError e)] } : State).onSensor a
        Sensor.arbitrary).respond .rdtemp (.err (.busError e)) := by
  simp [receiveTemperature, busRecv_failed _ h]

/-- RDTEMP step 1 while the call has not returned. -/
theorem readTemperature_unanswered {s : State} (a : Byte) (h : s.sendAnswers = []) :
    readTemperature a s = (s.onSensor a (Sensor.duringSend pointerFrame)).await (.tempPointer a) := by
  simp [readTemperature, busSend_unanswered _ _ h]

/-- RDTEMP when step 1 succeeds: step 2 follows on the state it leaves. -/
theorem readTemperature_ok {s : State} (a : Byte) {rest : List (Answer Unit)} (h : s.sendAnswers = .ok () :: rest) :
    readTemperature a s =
      receiveTemperature a (({ s with sendAnswers := rest, bus := s.bus ++ [BusEvent.send a pointerFrame (.ok ())] } : State).onSensor a
        (Sensor.afterSend pointerFrame)) := by
  simp [readTemperature, busSend_ok _ _ h]

/-- RDTEMP when step 1 fails: step 2 is not attempted. -/
theorem readTemperature_failed {s : State} (a : Byte) {e : BusErrorInfo} {rest : List (Answer Unit)}
    (h : s.sendAnswers = .busError e :: rest) :
    readTemperature a s =
      (({ s with sendAnswers := rest, bus := s.bus ++ [BusEvent.send a pointerFrame (.busError e)] } : State).onSensor a
        Sensor.arbitrary).respond .rdtemp (.err (.busError e)) := by
  simp [readTemperature, busSend_failed _ _ h]

/-- With nothing in flight the guard lets an operation run. -/
@[simp] theorem whenIdle_none {s : State} (t : State) (h : s.inFlight = none) : s.whenIdle t = .next t := by
  simp [State.whenIdle, h]

/-- With an operation in flight the guard refuses (U8). -/
@[simp] theorem whenIdle_some {s : State} (t : State) {p : InFlight} (h : s.inFlight = some p) :
    s.whenIdle t = .refused .operationInFlight := by
  simp [State.whenIdle, h]

/-- The guard answers a next state only with nothing in flight, and then that one. -/
theorem whenIdle_next {s t u : State} (h : s.whenIdle t = .next u) : s.inFlight = none ∧ u = t := by
  cases hf : s.inFlight with
  | none => rw [whenIdle_none t hf] at h; exact ⟨rfl, by cases h; rfl⟩
  | some p => rw [whenIdle_some t hf] at h; cases h

end Sys2Proof.Machine
end

