-- ==== Sys2Proof/Laws/PerInstr.lean ====
section
/-! SUPPORT. The per-instruction family: the image of every instruction is well formed, so that nothing an `Instr` can hold is shut out. -/

namespace Sys2Proof.Laws.Encodes

/-- The image of `i` passes the check of WellFormed.lean. -/
def Statement (i : Instr) : Prop := imageWellFormed (encode i) = true

/-- A value of a narrower port fits its width. -/
theorem fits {w : Nat} (x : BitVec w) (hw : w ≤ 8) : (x.setWidth 8).toNat < 2 ^ w := by
  have h : x.toNat < 2 ^ 8 := lt_of_lt_of_le x.isLt (Nat.pow_le_pow_right (by decide) hw)
  rw [BitVec.toNat_setWidth, Nat.mod_eq_of_lt h]
  exact x.isLt

/-- A whole byte fits 8 bits. -/
theorem fitsByte (x : Byte) : x.toNat < 2 ^ 8 := x.isLt

theorem fqmap (n : Byte) : Statement (.fqmap n) := by
  have h := fitsByte n
  simp_all [Statement, encode, Instr.op, Op.number, encodePorts, imageWellFormed, Op.ofNumber, Op.all, Op.portsWellFormed, portsFit]

theorem cpack (c : FqCode) (p m d : Field) : Statement (.cpack c p m d) := by
  have hc := fits c (by decide)
  have hp := fits p (by decide)
  have hm := fits m (by decide)
  have hd := fits d (by decide)
  simp_all [Statement, encode, Instr.op, Op.number, encodePorts, imageWellFormed, Op.ofNumber, Op.all, Op.portsWellFormed, portsFit]

theorem cunpack (b : Byte) : Statement (.cunpack b) := by
  have h := fitsByte b
  simp_all [Statement, encode, Instr.op, Op.number, encodePorts, imageWellFormed, Op.ofNumber, Op.all, Op.portsWellFormed, portsFit]

/-- The five ports of a configuration record fit. -/
theorem configFits (c : DeviceConfig) : portsFit DeviceConfig.portWidths (encodeConfig c) = true := by
  have ha := fitsByte c.devAddr
  have hn := fitsByte c.fqSize
  have hp := fits c.osPol (by decide)
  have hm := fits c.osMode (by decide)
  have hd := fits c.devMode (by decide)
  simp_all [DeviceConfig.portWidths, encodeConfig, portsFit]

theorem cfgenc (a n : Byte) (p m d : Field) : Statement (.cfgenc a n p m d) := by
  simp [Statement, encode, Instr.op, Op.number, encodePorts, imageWellFormed, Op.ofNumber, Op.all, Op.portsWellFormed, configFits]

theorem tasm (b0 b1 : Byte) : Statement (.tasm b0 b1) := by
  have h0 := fitsByte b0
  have h1 := fitsByte b1
  simp_all [Statement, encode, Instr.op, Op.number, encodePorts, imageWellFormed, Op.ofNumber, Op.all, Op.portsWellFormed, portsFit]

theorem s11f (v : Raw11) : Statement (.s11f v) := by
  have hh := fits (v.extractLsb' 8 3) (by decide)
  have hl := fitsByte (v.extractLsb' 0 8)
  simp only [Statement, encode, Instr.op, Op.number, encodePorts, imageWellFormed, Op.ofNumber, Op.all, Op.portsWellFormed]
  simp_all [portsFit]

theorem tdec (b0 b1 : Byte) : Statement (.tdec b0 b1) := by
  have h0 := fitsByte b0
  have h1 := fitsByte b1
  simp_all [Statement, encode, Instr.op, Op.number, encodePorts, imageWellFormed, Op.ofNumber, Op.all, Op.portsWellFormed, portsFit]

theorem init (cfg : Option DeviceConfig) : Statement (.init cfg) := by
  cases cfg with
  | none => simp [Statement, encode, Instr.op, Op.number, encodePorts, encodePresence, imageWellFormed, Op.ofNumber, Op.all, Op.portsWellFormed]
  | some c =>
    simp [Statement, encode, Instr.op, Op.number, encodePorts, encodePresence, imageWellFormed, Op.ofNumber, Op.all, Op.portsWellFormed,
      portsFit, configFits]

theorem rdtemp (a : Byte) (present : Bool) : Statement (.rdtemp a present) := by
  have ha := fitsByte a
  cases present <;>
    simp_all [Statement, encode, Instr.op, Op.number, encodePorts, encodePresence, imageWellFormed, Op.ofNumber, Op.all, Op.portsWellFormed,
      portsFit]

end Sys2Proof.Laws.Encodes
end

