-- ==== Sys2Proof/Tests/Slice0.lean ====
section
/-! SUPPORT. Small tests. Every expected value is from 95_test_vectors.md (its tables are named) or is written out from the patterns of
30_encoding.md. Then one witness per statement with hypotheses: concrete values that meet them all. -/

open Sys2Proof Sys2Proof.Machine

namespace Sys2Proof.Tests

/-- Reset, with these answers still to come from the transport. -/
def answering (sends : List (Answer Unit)) (recvs : List (Answer (Byte × Byte))) : State :=
  { State.reset with sendAnswers := sends, recvAnswers := recvs }

/-- Reset, with these requests presented. -/
def asked (images : List (List Byte)) : State := { State.reset with requests := images }

/-- The state of a next outcome, and the state given where there is none. -/
def after (o : Host.Outcome State Fault Refusal) (s : State) : State :=
  match o with
  | .next t => t
  | .fault _ => s
  | .refused _ => s

/-- What an instruction answers from this state. -/
def resultOf (i : Instr) (s : State) : Option Response := (after (exec i s) s).response

/-- The bus events it leaves. -/
def eventsOf (i : Instr) (s : State) : List BusEvent := (after (exec i s) s).bus

/-- Whether an outcome is a refusal for this reason. -/
def refusedFor (r : Refusal) : Host.Outcome State Fault Refusal → Bool
  | .refused r' => decide (r = r')
  | .next _ => false
  | .fault _ => false

/-! ## WellFormed: one ill-formed image for each check -/

theorem test_wf_empty : imageWellFormed [] = false := by decide
theorem test_wf_no_tenth_group : imageWellFormed [9, 0] = false := by decide
theorem test_wf_port_missing : imageWellFormed [1, 0, 0, 0] = false := by decide
theorem test_wf_port_too_many : imageWellFormed [0, 1, 2] = false := by decide
theorem test_wf_code_wide : imageWellFormed [1, 4, 0, 0, 0] = false := by decide
theorem test_wf_field_two : imageWellFormed [1, 0, 2, 0, 0] = false := by decide
theorem test_wf_raw11_wide : imageWellFormed [5, 8, 0] = false := by decide
theorem test_wf_sample_one_byte : imageWellFormed [6, 0x19] = false := by decide
theorem test_wf_sample_three_bytes : imageWellFormed [6, 0x19, 0x00, 0x00] = false := by decide
theorem test_wf_presence_two : imageWellFormed [7, 2] = false := by decide
theorem test_wf_null_with_record : imageWellFormed [7, 0, 0, 1, 0, 0, 0] = false := by decide
theorem test_wf_config_short : imageWellFormed [7, 1, 0, 1, 0, 0] = false := by decide
theorem test_wf_config_field_two : imageWellFormed [3, 0, 1, 0, 0, 2] = false := by decide
theorem test_wf_dst_two : imageWellFormed [8, 0x48, 2] = false := by decide

/-! ## Decode: words from the patterns of R51, R53, R54, R56, and images for the rows that share their words -/

theorem test_decode_fqmap_word : decodeTableWord 2 0b10 = some (.fqmap 4) := by decide
theorem test_decode_fqmap : decode [0, 0b00000100] = .ok (.fqmap 4) := by decide
theorem test_decode_cpack_word : decodeTableWord 8 0b00010100 = some (.cpack 0b10 1 0 0) := by decide
theorem test_decode_cunpack_word : decodeTableWord 8 0b11110100 = some (.cunpack 0xF4) := by decide
theorem test_decode_cfgenc_word : decodeTableWord 16 0b0000000100011011 = some (.cfgenc 0 6 0 1 1) := by decide
theorem test_decode_tasm : decode [4, 0b11100111, 0b00000000] = .ok (.tasm 0xE7 0x00) := by decide
theorem test_decode_s11f_word : decodeTableWord 16 0b0000011001001000 = some (.s11f 0x648) := by decide
theorem test_decode_tdec_word : decodeTableWord 16 0b1100100100011111 = some (.tdec 0xC9 0x1F) := by decide
theorem test_decode_init : decode [7, 1, 0x77, 2, 1, 0, 1] = .ok (.init (some ⟨0x77, 2, 1, 0, 1⟩)) := by decide
theorem test_decode_rdtemp_word : decodeTableWord 24 0b000000001100100100011111 = some (.rdtemp 0 true) := by decide
theorem test_decode_unknown_pointer : decodeTableWord 24 0x020000 = none := by decide
theorem test_step_runs_placed_word : step (State.reset.withFetchWord 8 0x14) = exec (.cpack 0b10 1 0 0) State.reset := rfl

/-- INIT and CFGENC form the same frame (the table's two rows FRAME_CFGWR). -/
theorem test_rows_share_words : dataWord (.init (some ⟨0x77, 2, 1, 0, 1⟩)) = some [0x01, 0x0D] ∧
    dataWord (.cfgenc 0x77 2 1 0 1) = some [0x01, 0x0D] := by decide

/-! ## The operations, at most two each -/

/-- Table 2.1. -/
theorem test_fqmap_four : resultOf (.fqmap 4) State.reset = some ⟨.fqmap, .ok (.fqCode 0b10)⟩ := by decide
theorem test_fqmap_three : resultOf (.fqmap 3) State.reset = some ⟨.fqmap, .err .invalidArgument⟩ := by decide
/-- Table 2.2. -/
theorem test_cpack_0x14 : resultOf (.cpack 0b10 1 0 0) State.reset = some ⟨.cpack, .ok (.cfgByte 0x14)⟩ := by decide
/-- Table 2.2, the parameter `FIELD_W` = 8: `0xFF << 2 = 0x3FC`, low 8 bits; a 2 in the polarity spills into `FQ[0]`. -/
theorem test_pack_wide : packFields 8 0b00 0xFF 0 0 = 0xFC ∧ packFields 8 0b00 2 0 0 = 0x08 ∧ packFields 8 0b11 1 3 0 = 0x1E := by decide
/-- Table 2.3. -/
theorem test_cunpack_0xF4 : resultOf (.cunpack 0xF4) State.reset = some ⟨.cunpack, .ok (.fields ⟨0b10, 4, 1, 0, 0⟩)⟩ := by decide
theorem test_cunpack_0x0E : resultOf (.cunpack 0x0E) State.reset = some ⟨.cunpack, .ok (.fields ⟨0b01, 2, 1, 1, 0⟩)⟩ := by decide
/-- Table 2.4: the frame goes to A, not to 0x12. -/
theorem test_cfgenc_frame : eventsOf (.cfgenc 0x12 4 1 0 0) (answering [.ok ()] []) = [.send Config.cfgDevAddr [0x01, 0x14] (.ok ())] := rfl
theorem test_cfgenc_bus_error : resultOf (.cfgenc 0x00 2 0 0 1) (answering [.busError ⟨7⟩] []) = some ⟨.cfgenc, .err (.busError ⟨7⟩)⟩ := by
  decide
/-- Table 2.5. -/
theorem test_tasm_0xE7 : resultOf (.tasm 0xE7 0x00) State.reset = some ⟨.tasm, .ok (.raw11 0x738)⟩ := by decide
theorem test_tasm_low_byte : resultOf (.tasm 0x00 0xFF) State.reset = some ⟨.tasm, .ok (.raw11 0x007)⟩ := by decide
theorem test_s11f_smallest : resultOf (.s11f 0x400) State.reset = some ⟨.s11f, .ok (.temperature ⟨0x400, 0xC3000000⟩)⟩ := by decide
theorem test_s11f_minus_one : resultOf (.s11f 0x7FF) State.reset = some ⟨.s11f, .ok (.temperature ⟨0x7FF, 0xBE000000⟩)⟩ := by decide
theorem test_tdec_minus_55 : resultOf (.tdec 0xC9 0x1F) State.reset = some ⟨.tdec, .ok (.temperature ⟨0x648, 0xC25C0000⟩)⟩ := by decide
theorem test_tdec_85_25 : resultOf (.tdec 0x55 0x55) State.reset = some ⟨.tdec, .ok (.temperature ⟨0x2AA, 0x42AA8000⟩)⟩ := by decide
/-- Table 2.7. -/
theorem test_init_frame : eventsOf (.init (some ⟨0x77, 2, 1, 0, 1⟩)) (answering [.ok ()] []) =
    [.send Config.cfgDevAddr [0x01, 0x0D] (.ok ())] := rfl
theorem test_init_null : resultOf (.init none) State.reset = some ⟨.init, .err .nullArgument⟩ := by decide
/-- Table 2.8. -/
theorem test_rdtemp_events : eventsOf (.rdtemp 0x48 true) (answering [.ok ()] [.ok (0xC9, 0x1F)]) =
    [.send 0x48 [0x00] (.ok ()), .recv 0x48 2 (.ok (0xC9, 0x1F))] := by decide
theorem test_rdtemp_second_call_fails : resultOf (.rdtemp 0x48 true) (answering [.ok ()] [.busError ⟨2⟩]) =
    some ⟨.rdtemp, .err (.busError ⟨2⟩)⟩ := by decide

/-- Table 2.9: TDEC of a 1-byte list has no meaning. -/
theorem test_step_refuses_short_sample : refusedFor (.malformedRequest (.sampleNotTwoBytes .tdec)) (step (asked [[6, 0x19]])) = true := by decide
/-- R8, R39: a call that has not returned is no fault and no result; the operation is at position 1. -/
theorem test_hang_is_in_flight : (after (step (asked [[8, 0x48, 1]])) State.reset).inFlight = some (.tempPointer 0x48) ∧
    (after (step (asked [[8, 0x48, 1]])) State.reset).response = none ∧ (InFlight.tempPointer 0x48).position = 1 := by decide
/-- R14, R94: the configuration register receives the byte, whatever it held. -/
theorem test_config_register : ((busSend 0x48 [0x01, 0x14] (answering [.ok ()] [])).2.sensor 0x48).conf = 0x14 := by
  rw [busSend_ok 0x48 [0x01, 0x14] (rest := []) rfl, onSensor_sensor_same]
  rfl
/-- R16, R90: a configuration write that waited touches no threshold. -/
theorem test_waiting_send_keeps_thresholds (x : Sensor) :
    (Sensor.afterSend [0x01, 0x14] 8 (Sensor.duringSend [0x01, 0x14] 7 x)).hyst = x.hyst ∧
    (Sensor.duringSend [0x01, 0x14] 7 x).overtemp = x.overtemp := ⟨rfl, rfl⟩
/-- R91: a receive that waited leaves the pointer that step 1 set. -/
theorem test_waiting_receive_keeps_pointer (x : Sensor) :
    (Sensor.afterReceive 9 (Sensor.duringReceive 8 (Sensor.afterSend [0x00] 7 x))).ptr = 0x00 := rfl
/-- Program P1 on the reference device: after the pointer frame it answers `[0x19, 0x00]`. -/
theorem test_reference_device : ((RefDevice.send ⟨0x01, 0x14, 0x1900⟩ [0x00]).bind RefDevice.recv) = some (0x19, 0x00) := by decide

/-! ## Witnesses: values that meet a statement's hypotheses, clause by clause -/

theorem witness_EncodeOfDecodeIsTheImage : decode [8, 0xFF, 1] = .ok (.rdtemp 0xFF true) := by decide
theorem witness_MalformedPortValuesAreRejectedByName :
    ([0x19] : List Byte).length ≠ 2 ∧ ([0x19, 0, 0] : List Byte).length ≠ 2 ∧
    (3 : Byte).toNat < 4 ∧ 4 ≤ (4 : Byte).toNat ∧ 2 ≤ (2 : Byte).toNat ∧ 2 ≤ (255 : Byte).toNat ∧ (1 : Byte).toNat < 2 ∧
    8 ≤ (8 : Byte).toNat := by decide
theorem witness_TableWordsReadAsTheirRequest :
    2 ^ 16 - 1 < 2 ^ 16 ∧ 32 ≤ (32 : Byte).toNat ∧ 32 ≤ (255 : Byte).toNat ∧ 8 ≤ (8 : Byte).toNat := by decide
theorem witness_DataWordsFitTheTablePatterns : dataWord (.fqmap 6) = some [0b11] ∧ dataWord (.cfgenc 0 6 1 1 1) = some [0x01, 0x1F] ∧
    dataWord (.init (some ⟨0, 1, 0, 0, 0⟩)) = some [0x01, 0x00] := by decide
theorem witness_StepRunsTheDecodedRequest : (asked [[0, 4]]).inFlight = none ∧ (asked [[0, 4]]).requests = [[0, 4]] ∧
    decode [0, 4] = .ok (.fqmap 4) := by decide
theorem witness_StepRefusesAMalformedRequest : (asked [[9]]).inFlight = none ∧ (asked [[9]]).requests = [[9]] ∧
    decode [9] = .error (.noSuchGroup 9) := by decide
theorem witness_StepWithoutRequestIsIdle : State.reset.inFlight = none ∧ State.reset.requests = [] := by decide
theorem witness_NoRequestIsTakenWhileInFlight : (State.reset.await (.tempPointer 0x48)).inFlight = some (.tempPointer 0x48) := by decide
theorem witness_StepRunsThePlacedWord : decodeTableWord 16 0x0100 = some (.cfgenc 0 1 0 0 0) := by decide
theorem witness_FqmapDeliversTheCode : (1 : Byte).toNat = 1 ∧ (2 : Byte).toNat = 2 ∧ (4 : Byte).toNat = 4 ∧ (6 : Byte).toNat = 6 ∧
    ((7 : Byte).toNat ≠ 1 ∧ (7 : Byte).toNat ≠ 2 ∧ (7 : Byte).toNat ≠ 4 ∧ (7 : Byte).toNat ≠ 6) := by decide
theorem witness_CpackAssemblesTheByte : packByte 0b11 1 1 1 = packByte 0b11 1 1 1 ∧ (0x1F : Byte).toNat ≤ 0x1F := by decide
theorem witness_CunpackInvertsCpack : (unpackByte 0x00).fqCode = 0b00 ∧ (unpackByte 0x0F).fqCode = 0b01 ∧ (unpackByte 0x10).fqCode = 0b10 ∧
    (unpackByte 0xFF).fqCode = 0b11 := by decide
theorem witness_CfgencValidatesPacksAndWrites :
    (answering [.ok ()] []).inFlight = none ∧ fqMap (5 : Byte).toNat = none ∧
    fqMap (6 : Byte).toNat = some 0b11 ∧ (answering [.ok ()] []).sendAnswers = [.ok ()] ∧
    (answering [.busError ⟨1⟩] []).inFlight = none ∧ (answering [.busError ⟨1⟩] []).sendAnswers = [.busError ⟨1⟩] := by decide
theorem witness_EncoderTestableProperties : State.reset.inFlight = none ∧ (0 : Byte).toNat ≠ 1 ∧ (0 : Byte).toNat ≠ 2 ∧
    (0 : Byte).toNat ≠ 4 ∧ (0 : Byte).toNat ≠ 6 := by decide
theorem witness_S11fDeliversTheSignedEighths : (0x400 : Raw11).getLsbD 10 = true ∧ (0x3FF : Raw11).getLsbD 10 = false := by decide
theorem witness_TemperaturePortsAreExact : (0 : Raw11) = 0 ∧ (0x7FF : Raw11) ≠ 0 := by decide
theorem witness_TemperatureRoundTrip : (-1024 : Int) ≤ -1024 ∧ (-1024 : Int) ≤ 1023 ∧ (-1024 : Int) ≤ 1023 := by decide
theorem witness_DecoderIsMonotoneAndSymmetric :
    ((0x3FE : Raw11).toNat < (0x3FF : Raw11).toNat ∧ (0x3FF : Raw11).toNat ≤ 0x3FF) ∧
    (0x400 ≤ (0x400 : Raw11).toNat ∧ (0x400 : Raw11).toNat < (0x401 : Raw11).toNat) ∧
    ((0x3FF : Raw11).toNat ≤ 0x3FF ∧ 0x400 ≤ (0x400 : Raw11).toNat) ∧ (0x401 : Raw11) ≠ 0x400 ∧ (0x7FF : Raw11) ≠ 0x3FF := by decide
theorem witness_InitConfiguresTheSensor :
    (answering [.ok ()] []).inFlight = none ∧ fqMap (DeviceConfig.mk 0 5 0 0 0).fqSize.toNat = none ∧
    fqMap (DeviceConfig.mk 0x77 2 1 0 1).fqSize.toNat = some 0b01 ∧ (answering [.ok ()] []).sendAnswers = [.ok ()] ∧
    (answering [.busError ⟨1⟩] []).sendAnswers = [.busError ⟨1⟩] := by decide
theorem witness_RdtempReadsAndDecodes :
    (answering [.busError ⟨1⟩] []).inFlight = none ∧ (answering [.busError ⟨1⟩] []).sendAnswers = [.busError ⟨1⟩] ∧
    (answering [.ok ()] [.busError ⟨2⟩]).sendAnswers = [.ok ()] ∧ (answering [.ok ()] [.busError ⟨2⟩]).recvAnswers = [.busError ⟨2⟩] ∧
    (answering [.ok ()] [.ok (0x80, 0x00)]).recvAnswers = [.ok (0x80, 0x00)] := by decide
theorem witness_UnansweredCallsLeaveTheOperationInFlight :
    (answering [] []).inFlight = none ∧ (answering [] []).sendAnswers = [] ∧ fqMap (4 : Byte).toNat = some 0b10 ∧
    (answering [.ok ()] []).sendAnswers = [.ok ()] ∧ (answering [.ok ()] []).recvAnswers = [] ∧
    (State.reset.await (.tempReceive 0x48)).inFlight = some (.tempReceive 0x48) := by decide
theorem witness_UnansweredCallsLeaveTheOperationInFlight_stays :
    (InFlight.tempReceive 0x48).Unanswered ((answering [.ok ()] []).await (.tempReceive 0x48)) ∧
    (InFlight.tempPointer 0x48).Unanswered ((answering [] [.ok (0, 0)]).await (.tempPointer 0x48)) ∧
    (InFlight.configWrite .init 0x1F).Unanswered ((answering [] [.ok (0, 0)]).await (.configWrite .init 0x1F)) := ⟨rfl, rfl, rfl⟩
theorem witness_WaitingChangesNoOutcome : State.reset.inFlight = none ∧
    exec (.rdtemp 0x48 true) State.reset = .next (after (exec (.rdtemp 0x48 true) State.reset) State.reset) ∧
    (after (exec (.rdtemp 0x48 true) State.reset) State.reset).inFlight ≠ none := ⟨rfl, rfl, by decide⟩
theorem witness_WaitingChangesNoOutcome_receive :
    (after (exec (.rdtemp 0x48 true) (answering [.ok ()] [])) State.reset).inFlight = some (.tempReceive 0x48) ∧
    resultOf (.rdtemp 0x48 true) (answering [.ok ()] [.ok (0, 0)]) = some ⟨Instr.op (.rdtemp 0x48 true), .ok (.temperature ⟨0, 0⟩)⟩ ∧
    configures (.cfgenc 0 1 0 0 0) = true := by decide
theorem witness_InFlightOperationEndsWhenAnswered :
    ((answering [.ok ()] [.ok (0, 0)]).await (.configWrite .init 0x1F)).inFlight = some (.configWrite .init 0x1F) ∧
    ((answering [.ok ()] [.ok (0, 0)]).await (.tempPointer 0x48)).inFlight = some (.tempPointer 0x48) ∧
    ((answering [.ok ()] [.ok (0, 0)]).await (.tempReceive 0x48)).inFlight = some (.tempReceive 0x48) ∧
    ((answering [.ok ()] [.ok (0, 0)]).await (.tempPointer 0x48)).sendAnswers = [.ok ()] ∧
    ((answering [.ok ()] [.ok (0, 0)]).await (.tempPointer 0x48)).recvAnswers = [.ok (0, 0)] ∧
    ((answering [.busError ⟨1⟩] []).await (.tempPointer 0x48)).sendAnswers = [.busError ⟨1⟩] ∧
    ((answering [.ok ()] [.busError ⟨2⟩]).await (.tempPointer 0x48)).recvAnswers = [.busError ⟨2⟩] ∧
    ((answering [.ok ()] []).await (.tempPointer 0x48)).recvAnswers = [] := by decide
theorem witness_EachOperationUsesItsAddress :
    exec (.rdtemp 0x48 true) (answering [.ok ()] [.ok (0, 0)]) =
      .next (after (exec (.rdtemp 0x48 true) (answering [.ok ()] [.ok (0, 0)])) State.reset) := rfl
theorem witness_StatusCodesAndBusErr : hasStatusPort .rdtemp = true := by decide
theorem witness_ErrorsArisePreciselyAsTabled :
    resultOf (.rdtemp 0x48 false) State.reset = some ⟨.rdtemp, .err .nullArgument⟩ ∧
    resultOf (.init (some ⟨0, 5, 0, 0, 0⟩)) State.reset = some ⟨.init, .err .invalidArgument⟩ ∧
    resultOf (.rdtemp 0x48 true) (answering [.busError ⟨1⟩] []) = some ⟨.rdtemp, .err (.busError ⟨1⟩)⟩ := by decide
theorem witness_ErrorsArisePreciselyAsTabled_causes :
    lengthChecked (.fqmap 0) = some 0 ∧ (0 : Byte).toNat ≠ 1 ∧ (0 : Byte).toNat ≠ 2 ∧ (0 : Byte).toNat ≠ 4 ∧ (0 : Byte).toNat ≠ 6 ∧
    eventsOf (.rdtemp 0x48 true) (answering [.ok ()] [.busError ⟨2⟩]) = [] ++ [.send 0x48 [0x00] (.ok ()), .recv 0x48 2 (.busError ⟨2⟩)] ∧
    (BusEvent.recv 0x48 2 (.busError ⟨2⟩)).failure = some ⟨2⟩ := by decide
theorem witness_PureConversionsRaiseNothing : (Instr.cunpack 0xFF).op = .cunpack ∧ (answering [.ok ()] [.ok (0xFF, 0xE0)]).inFlight = none ∧
    (answering [.ok ()] [.ok (0xFF, 0xE0)]).recvAnswers = [.ok (0xFF, 0xE0)] := by decide
theorem witness_FirstFailingCheckWins :
    (answering [.busError ⟨1⟩] [.busError ⟨2⟩]).inFlight = none ∧ (answering [.busError ⟨1⟩] [.busError ⟨2⟩]).sendAnswers = [.busError ⟨1⟩] ∧
    (answering [.busError ⟨1⟩] [.busError ⟨2⟩]).recvAnswers = [.busError ⟨2⟩] ∧ fqMap (3 : Byte).toNat = none ∧
    fqMap (1 : Byte).toNat = some 0b00 := by decide
theorem witness_ErrorsLeaveTheBlockAsBefore : State.reset.inFlight = none ∧
    exec (.init none) State.reset = .next (after (exec (.init none) State.reset) State.reset) ∧
    (after (exec (.init none) State.reset) State.reset).response = some ⟨.init, .err .nullArgument⟩ := ⟨rfl, rfl, rfl⟩
theorem witness_StepKeepsTheBusShapes : State.Inv (asked [[8, 0x48, 1]]) ∧
    step (asked [[8, 0x48, 1]]) = .next (after (step (asked [[8, 0x48, 1]])) State.reset) :=
  ⟨⟨by simp [asked, State.reset], by simp [asked, State.reset]⟩, rfl⟩
theorem witness_StepIgnoresSensorsAndHistory : SameToTheBlock State.reset (State.reset.onSensor 0x48 Sensor.arbitrary) := ⟨rfl, rfl, rfl, rfl⟩
theorem witness_StepIgnoresSensorsAndHistory_refused : step (asked [[9]]) = .refused (.malformedRequest (.noSuchGroup 9)) := rfl
theorem witness_OperationsKeepNothingBetweenCalls : State.reset.inFlight = none ∧ (State.reset.onSensor 1 Sensor.arbitrary).inFlight = none ∧
    (State.reset.onSensor 1 Sensor.arbitrary).sendAnswers = State.reset.sendAnswers ∧
    (State.reset.onSensor 1 Sensor.arbitrary).recvAnswers = State.reset.recvAnswers := ⟨rfl, rfl, rfl, rfl⟩
theorem witness_PureOperationsReadOnlyTheirOperands : usesBus (.tdec 0 0) = false ∧
    (answering [.ok ()] []).inFlight = none ∧ (answering [.ok ()] []).sendAnswers = [.ok ()] ∧
    (answering [.ok (), .ok ()] []).sendAnswers = .ok () :: [.ok ()] := by decide
theorem witness_FrameOfEveryOperation : target (.init (some ⟨0, 1, 0, 0, 0⟩)) ≠ none ∧ target (.rdtemp 0 true) ≠ some 1 ∧
    target (.rdtemp 0 false) = none ∧ exec (.rdtemp 0 false) State.reset = .next (after (exec (.rdtemp 0 false) State.reset) State.reset) :=
  ⟨by simp [target], by decide, rfl, rfl⟩
theorem witness_OperationsReturnWhenTheBusAnswers : (answering [.ok ()] [.ok (0, 0)]).inFlight = none ∧
    (answering [.ok ()] [.ok (0, 0)]).sendAnswers ≠ [] ∧ (answering [.ok ()] [.ok (0, 0)]).recvAnswers ≠ [] := by decide
theorem witness_ExecStopsOnlyOnASecondBusOperation : (State.reset.await (.tempPointer 0)).inFlight = some (.tempPointer 0) ∧
    usesBus (.init none) = true ∧ usesBus (.fqmap 0) = false ∧ State.reset.inFlight = none := by decide
theorem witness_OutputPortsByOutcome :
    resultOf (.rdtemp 0x48 true) (answering [.ok ()] [.ok (0x19, 0x00)]) = some ⟨.rdtemp, .ok (.temperature ⟨0x0C8, 0x41C80000⟩)⟩ ∧
    resultOf (.fqmap 0) State.reset = some ⟨.fqmap, .err .invalidArgument⟩ := by decide
theorem witness_SensorFollowsTheReferenceDevice : (answering [.ok ()] []).sendAnswers = [.ok ()] ∧
    (configFrame 0x14 = configFrame 0x14 ∨ configFrame 0x14 = pointerFrame) ∧ pointerFrame = [0x00] := by decide
theorem witness_PointerIsZeroFromStepOneOn :
    exec (.rdtemp 0x48 true) (answering [.ok ()] []) = .next (after (exec (.rdtemp 0x48 true) (answering [.ok ()] [])) State.reset) ∧
    PointerWritten (after (exec (.rdtemp 0x48 true) (answering [.ok ()] [])) State.reset) 0x48 ∧
    PointerWritten (after (step ((answering [.ok ()] [.ok (0, 0)]).await (.tempPointer 0x48))) State.reset) 0x48 ∧
    PointerWritten (after (step ((answering [] [.ok (0, 0)]).await (.tempReceive 0x48))) State.reset) 0x48 :=
  ⟨rfl, .inl rfl, .inr ⟨_, rfl⟩, .inr ⟨_, rfl⟩⟩
theorem witness_ThresholdsAreNeverTouchedByAConfiguration : configures (.init (some ⟨0, 1, 0, 0, 0⟩)) = true ∧
    resultOf (.init (some ⟨0, 1, 0, 0, 0⟩)) (answering [.ok ()] []) = some ⟨.init, .ok .unit⟩ ∧
    ((answering [.ok ()] []).await (.configWrite .cfgenc 0)).inFlight = some (.configWrite .cfgenc 0) ∧
    (after (step ((answering [.ok ()] []).await (.configWrite .cfgenc 0))) State.reset).response = some ⟨.cfgenc, .ok (.cfgByte 0)⟩ := by
  decide

end Sys2Proof.Tests
end

section
/-! PROOFS. Two idle blocks that the transport will answer alike run every operation alike (10_state.md R10).
The relation is proved for each transport primitive, then for each sequence, then for `exec`. -/

namespace Sys2Proof.Machine

/-! ## The relations -/

/-- Two states with nothing in flight to which the transport will give the same answers; all else may differ. -/
structure IdleAlike (s₁ s₂ : State) : Prop where
  idle_left : s₁.inFlight = none
  idle_right : s₂.inFlight = none
  sendAnswers : s₂.sendAnswers = s₁.sendAnswers
  recvAnswers : s₂.recvAnswers = s₁.recvAnswers

/-- The bus calls that returned from `s₁` to `t₁` are those that returned from `s₂` to `t₂`. -/
def EventsAlike (s₁ s₂ t₁ t₂ : State) : Prop :=
  ∃ new, t₁.bus = s₁.bus ++ new ∧ t₂.bus = s₂.bus ++ new

/-- An operation that leads from `s₁` to `t₁` and from `s₂` to `t₂` shows the same both times, and is over once it has a response. -/
structure RunAlike (s₁ s₂ t₁ t₂ : State) : Prop where
  response : t₂.response = t₁.response
  inFlight : t₂.inFlight = t₁.inFlight
  sendAnswers : t₂.sendAnswers = t₁.sendAnswers
  recvAnswers : t₂.recvAnswers = t₁.recvAnswers
  events : EventsAlike s₁ s₂ t₁ t₂
  ended : t₁.response ≠ none → t₁.inFlight = none

variable {s₁ s₂ u₁ u₂ t₁ t₂ : State}

theorem EventsAlike.refl (s₁ s₂ : State) : EventsAlike s₁ s₂ s₁ s₂ := ⟨[], by simp⟩

theorem EventsAlike.trans (hsu : EventsAlike s₁ s₂ u₁ u₂) (hut : EventsAlike u₁ u₂ t₁ t₂) : EventsAlike s₁ s₂ t₁ t₂ := by
  obtain ⟨first, hu₁, hu₂⟩ := hsu
  obtain ⟨second, ht₁, ht₂⟩ := hut
  exact ⟨first ++ second, by rw [ht₁, hu₁, List.append_assoc], by rw [ht₂, hu₂, List.append_assoc]⟩

/-- What runs alike after the same bus calls runs alike from before them. -/
theorem RunAlike.of_events (h : RunAlike u₁ u₂ t₁ t₂) (hev : EventsAlike s₁ s₂ u₁ u₂) : RunAlike s₁ s₂ t₁ t₂ :=
  { h with events := hev.trans h.events }

/-! ## The state's operations -/

theorem IdleAlike.onSensor (h : IdleAlike s₁ s₂) (a : Byte) (f : Nat → Sensor → Sensor) :
    IdleAlike (s₁.onSensor a f) (s₂.onSensor a f) :=
  ⟨h.idle_left, h.idle_right, h.sendAnswers, h.recvAnswers⟩

theorem IdleAlike.respond (h : IdleAlike s₁ s₂) (op : Op) (r : Result) :
    RunAlike s₁ s₂ (s₁.respond op r) (s₂.respond op r) where
  response := rfl
  inFlight := h.idle_right.trans h.idle_left.symm
  sendAnswers := h.sendAnswers
  recvAnswers := h.recvAnswers
  events := EventsAlike.refl s₁ s₂
  ended _ := h.idle_left

theorem IdleAlike.await (h : IdleAlike s₁ s₂) (p : InFlight) : RunAlike s₁ s₂ (s₁.await p) (s₂.await p) where
  response := rfl
  inFlight := rfl
  sendAnswers := h.sendAnswers
  recvAnswers := h.recvAnswers
  events := EventsAlike.refl s₁ s₂
  ended hr := absurd rfl hr

/-! ## The transport primitives -/

/-- A send is answered alike, or waits alike. -/
theorem busSend_alike (h : IdleAlike s₁ s₂) (a : Byte) (bytes : List Byte) :
    ∃ ans u₁ u₂, busSend a bytes s₁ = (ans, u₁) ∧ busSend a bytes s₂ = (ans, u₂) ∧
      IdleAlike u₁ u₂ ∧ EventsAlike s₁ s₂ u₁ u₂ := by
  have taken {rest : List (Answer Unit)} (e : BusEvent) :
      IdleAlike { s₁ with sendAnswers := rest, bus := s₁.bus ++ [e] } { s₂ with sendAnswers := rest, bus := s₂.bus ++ [e] } :=
    ⟨h.idle_left, h.idle_right, rfl, h.recvAnswers⟩
  match hs : s₁.sendAnswers with
  | [] =>
    exact ⟨_, _, _, busSend_unanswered a bytes hs, busSend_unanswered a bytes (h.sendAnswers.trans hs),
      h.onSensor a _, EventsAlike.refl s₁ s₂⟩
  | .ok () :: rest =>
    exact ⟨_, _, _, busSend_ok a bytes hs, busSend_ok a bytes (h.sendAnswers.trans hs),
      (taken _).onSensor a _, [_], rfl, rfl⟩
  | .busError e :: rest =>
    exact ⟨_, _, _, busSend_failed a bytes hs, busSend_failed a bytes (h.sendAnswers.trans hs),
      (taken _).onSensor a _, [_], rfl, rfl⟩

/-- A receive is answered alike, or waits alike. -/
theorem busRecv_alike (h : IdleAlike s₁ s₂) (a : Byte) :
    ∃ ans u₁ u₂, busRecv a s₁ = (ans, u₁) ∧ busRecv a s₂ = (ans, u₂) ∧
      IdleAlike u₁ u₂ ∧ EventsAlike s₁ s₂ u₁ u₂ := by
  have taken {rest : List (Answer (Byte × Byte))} (e : BusEvent) :
      IdleAlike { s₁ with recvAnswers := rest, bus := s₁.bus ++ [e] } { s₂ with recvAnswers := rest, bus := s₂.bus ++ [e] } :=
    ⟨h.idle_left, h.idle_right, h.sendAnswers, rfl⟩
  match hr : s₁.recvAnswers with
  | [] =>
    exact ⟨_, _, _, busRecv_unanswered a hr, busRecv_unanswered a (h.recvAnswers.trans hr),
      h.onSensor a _, EventsAlike.refl s₁ s₂⟩
  | .ok bs :: rest =>
    exact ⟨_, _, _, busRecv_ok a hr, busRecv_ok a (h.recvAnswers.trans hr),
      (taken _).onSensor a _, [_], rfl, rfl⟩
  | .busError e :: rest =>
    exact ⟨_, _, _, busRecv_failed a hr, busRecv_failed a (h.recvAnswers.trans hr),
      (taken _).onSensor a _, [_], rfl, rfl⟩

/-! ## The sequences -/

theorem configWrite_alike (h : IdleAlike s₁ s₂) (caller : ConfigCaller) (b : Byte) :
    RunAlike s₁ s₂ (configWrite caller b s₁) (configWrite caller b s₂) := by
  obtain ⟨ans, u₁, u₂, h₁, h₂, hu, hev⟩ := busSend_alike h Config.cfgDevAddr (configFrame b)
  rw [configWrite, configWrite, h₁, h₂]
  match ans with
  | none => exact (hu.await _).of_events hev
  | some (.busError e) => exact (hu.respond _ _).of_events hev
  | some (.ok ()) => exact (hu.respond _ _).of_events hev

theorem receiveTemperature_alike (h : IdleAlike s₁ s₂) (a : Byte) :
    RunAlike s₁ s₂ (receiveTemperature a s₁) (receiveTemperature a s₂) := by
  obtain ⟨ans, u₁, u₂, h₁, h₂, hu, hev⟩ := busRecv_alike h a
  rw [receiveTemperature, receiveTemperature, h₁, h₂]
  match ans with
  | none => exact (hu.await _).of_events hev
  | some (.busError e) => exact (hu.respond _ _).of_events hev
  | some (.ok (b0, b1)) => exact (hu.respond _ _).of_events hev

theorem readTemperature_alike (h : IdleAlike s₁ s₂) (a : Byte) :
    RunAlike s₁ s₂ (readTemperature a s₁) (readTemperature a s₂) := by
  obtain ⟨ans, u₁, u₂, h₁, h₂, hu, hev⟩ := busSend_alike h a pointerFrame
  rw [readTemperature, readTemperature, h₁, h₂]
  match ans with
  | none => exact (hu.await _).of_events hev
  | some (.busError e) => exact (hu.respond _ _).of_events hev
  | some (.ok ()) => exact (receiveTemperature_alike hu a).of_events hev

theorem configure_alike (h : IdleAlike s₁ s₂) (caller : ConfigCaller) (n : Byte) (p m d : Field) :
    RunAlike s₁ s₂ (configure caller n p m d s₁) (configure caller n p m d s₂) := by
  rw [configure, configure]
  match fqMap n.toNat with
  | none => exact h.respond _ _
  | some c => exact configWrite_alike h _ _

/-! ## The instructions -/

/-- Both states run the operation, and run it alike. -/
def NextAlike (f : State → Host.Outcome State Fault Refusal) (s₁ s₂ : State) : Prop :=
  ∃ t₁ t₂, f s₁ = .next t₁ ∧ f s₂ = .next t₂ ∧ RunAlike s₁ s₂ t₁ t₂

/-- An operation that only responds does so in any idle state. -/
theorem nextAlike_respond (h : IdleAlike s₁ s₂) (op : Op) (r : Result) : NextAlike (fun s => .next (s.respond op r)) s₁ s₂ :=
  ⟨_, _, rfl, rfl, h.respond op r⟩

/-- The guard of the bus operations lets both idle states run. -/
theorem nextAlike_whenIdle (h : IdleAlike s₁ s₂) (f : State → State) (hf : RunAlike s₁ s₂ (f s₁) (f s₂)) :
    NextAlike (fun s => s.whenIdle (f s)) s₁ s₂ :=
  ⟨_, _, whenIdle_none _ h.idle_left, whenIdle_none _ h.idle_right, hf⟩

theorem execFqmap_alike (h : IdleAlike s₁ s₂) (n : Byte) : NextAlike (execFqmap n) s₁ s₂ := by
  rw [NextAlike, execFqmap, execFqmap]
  match fqMap n.toNat with
  | some c => exact nextAlike_respond h _ _
  | none => exact nextAlike_respond h _ _

theorem execInit_alike (h : IdleAlike s₁ s₂) : ∀ cfg, NextAlike (execInit cfg) s₁ s₂
  | none => nextAlike_whenIdle h _ (h.respond _ _)
  | some c => nextAlike_whenIdle h _ (configure_alike h .init c.fqSize c.osPol c.osMode c.devMode)

theorem execRdtemp_alike (h : IdleAlike s₁ s₂) (a : Byte) : ∀ present, NextAlike (execRdtemp a present) s₁ s₂
  | false => nextAlike_whenIdle h _ (h.respond _ _)
  | true => nextAlike_whenIdle h _ (readTemperature_alike h a)

/-- Every instruction runs in both states, and alike (R10). -/
theorem exec_alike (i : Instr) (h : IdleAlike s₁ s₂) : NextAlike (exec i) s₁ s₂ := by
  cases i with
  | fqmap n => exact execFqmap_alike h n
  | cpack c p m d => exact nextAlike_respond h _ _
  | cunpack b => exact nextAlike_respond h _ _
  | cfgenc a n p m d => exact nextAlike_whenIdle h _ (configure_alike h .cfgenc n p m d)
  | tasm b0 b1 => exact nextAlike_respond h _ _
  | s11f v => exact nextAlike_respond h _ _
  | tdec b0 b1 => exact nextAlike_respond h _ _
  | init cfg => exact execInit_alike h cfg
  | rdtemp a present => exact execRdtemp_alike h a present

/-- Settles O42: both states run the instruction alike, and the run from `s₁` is the given one. -/
theorem operationsKeepNothingBetweenCalls : Obligations.OperationsKeepNothingBetweenCalls := by
  intro i s₁ s₂ t₁ hidle₁ hidle₂ hsend hrecv hexec
  obtain ⟨u₁, t₂, hu₁, ht₂, hrun⟩ := exec_alike i ⟨hidle₁, hidle₂, hsend, hrecv⟩
  obtain rfl : t₁ = u₁ := Host.Outcome.next.inj (hexec.symm.trans hu₁)
  obtain ⟨new, hbus₁, hbus₂⟩ := hrun.events
  exact ⟨t₂, new, ht₂, hrun.response, hrun.inFlight, hbus₁, hbus₂, hrun.ended⟩

end Sys2Proof.Machine
end

section
/-! PROOFS. Every bus call of an operation is at that operation's own address (20_memory.md R43).
The calls are followed through the sequences, then through `exec`. -/

namespace Sys2Proof.Machine

/-! ## The relation -/

/-- The bus calls that returned from `s` to `t` are all at the address `g`; with no address there are none. -/
def AddsEventsAt (g : Option Byte) (s t : State) : Prop :=
  ∃ new, t.bus = s.bus ++ new ∧ ∀ e ∈ new, g = some e.addr

variable {g : Option Byte} {s t u : State}

theorem AddsEventsAt.of_bus_eq (h : t.bus = s.bus) : AddsEventsAt g s t := ⟨[], by simp [h]⟩

theorem AddsEventsAt.of_event {e : BusEvent} (h : t.bus = s.bus ++ [e]) (haddr : g = some e.addr) : AddsEventsAt g s t :=
  ⟨[e], h, by simpa using haddr⟩

theorem AddsEventsAt.trans (hsu : AddsEventsAt g s u) (hut : AddsEventsAt g u t) : AddsEventsAt g s t := by
  obtain ⟨first, hu, hfirst⟩ := hsu
  obtain ⟨second, ht, hsecond⟩ := hut
  refine ⟨first ++ second, by rw [ht, hu, List.append_assoc], fun e he => ?_⟩
  exact (List.mem_append.mp he).elim (hfirst e) (hsecond e)

/-- An operation that answers only the state `u` adds what `u` adds. -/
theorem AddsEventsAt.of_next (h : AddsEventsAt g s u)
    (hnext : (.next u : Host.Outcome State Fault Refusal) = .next t) : AddsEventsAt g s t := by
  obtain rfl := Host.Outcome.next.inj hnext
  exact h

/-- The guard of the bus operations adds no call of its own. -/
theorem AddsEventsAt.of_whenIdle (h : AddsEventsAt g s u) (hnext : s.whenIdle u = .next t) : AddsEventsAt g s t := by
  obtain ⟨-, rfl⟩ := whenIdle_next hnext
  exact h

theorem addsEventsAt_respond (op : Op) (r : Result) : AddsEventsAt g s (s.respond op r) := .of_bus_eq rfl

/-! ## The sequences -/

/-- The configuration write calls `CFG_DEV_ADDR` only (R73). -/
theorem configWrite_addsEventsAt (caller : ConfigCaller) (b : Byte) (s : State) :
    AddsEventsAt (some Config.cfgDevAddr) s (configWrite caller b s) := by
  match hs : s.sendAnswers with
  | [] => rw [configWrite_unanswered _ _ hs]; exact .of_bus_eq rfl
  | .ok () :: rest => rw [configWrite_ok _ _ hs]; exact .of_event rfl rfl
  | .busError e :: rest => rw [configWrite_failed _ _ hs]; exact .of_event rfl rfl

theorem configure_addsEventsAt (caller : ConfigCaller) (n : Byte) (p m d : Field) (s : State) :
    AddsEventsAt (some Config.cfgDevAddr) s (configure caller n p m d s) := by
  rw [configure]
  match fqMap n.toNat with
  | none => exact addsEventsAt_respond _ _
  | some c => exact configWrite_addsEventsAt _ _ s

theorem receiveTemperature_addsEventsAt (a : Byte) (s : State) : AddsEventsAt (some a) s (receiveTemperature a s) := by
  match hr : s.recvAnswers with
  | [] => rw [receiveTemperature_unanswered _ hr]; exact .of_bus_eq rfl
  | .ok (b0, b1) :: rest => rw [receiveTemperature_ok _ hr]; exact .of_event rfl rfl
  | .busError e :: rest => rw [receiveTemperature_failed _ hr]; exact .of_event rfl rfl

/-- RDTEMP sends to and receives from the one address it was given (R91). -/
theorem readTemperature_addsEventsAt (a : Byte) (s : State) : AddsEventsAt (some a) s (readTemperature a s) := by
  match hs : s.sendAnswers with
  | [] => rw [readTemperature_unanswered _ hs]; exact .of_bus_eq rfl
  | .ok () :: rest =>
    rw [readTemperature_ok _ hs]
    exact .trans (.of_event rfl rfl) (receiveTemperature_addsEventsAt a _)
  | .busError e :: rest => rw [readTemperature_failed _ hs]; exact .of_event rfl rfl

/-! ## The instructions -/

theorem execFqmap_addsEventsAt {n : Byte} (hexec : execFqmap n s = .next t) : AddsEventsAt g s t := by
  rw [execFqmap] at hexec
  match fqMap n.toNat, hexec with
  | some c, hexec => exact (addsEventsAt_respond _ _).of_next hexec
  | none, hexec => exact (addsEventsAt_respond _ _).of_next hexec

theorem execInit_addsEventsAt : ∀ {cfg}, execInit cfg s = .next t → AddsEventsAt (target (.init cfg)) s t
  | none, hexec => (addsEventsAt_respond _ _).of_whenIdle hexec
  | some _, hexec => (configure_addsEventsAt _ _ _ _ _ s).of_whenIdle hexec

theorem execRdtemp_addsEventsAt {a : Byte} : ∀ {present}, execRdtemp a present s = .next t →
    AddsEventsAt (target (.rdtemp a present)) s t
  | false, hexec => (addsEventsAt_respond _ _).of_whenIdle hexec
  | true, hexec => (readTemperature_addsEventsAt a s).of_whenIdle hexec

/-- Every instruction's bus calls are at its own target (R43). -/
theorem exec_addsEventsAt_target (i : Instr) (hexec : exec i s = .next t) : AddsEventsAt (target i) s t := by
  cases i with
  | fqmap n => exact execFqmap_addsEventsAt hexec
  | cpack c p m d => exact (addsEventsAt_respond _ _).of_next hexec
  | cunpack b => exact (addsEventsAt_respond _ _).of_next hexec
  | cfgenc a n p m d => exact (configure_addsEventsAt .cfgenc n p m d s).of_whenIdle hexec
  | tasm b0 b1 => exact (addsEventsAt_respond _ _).of_next hexec
  | s11f v => exact (addsEventsAt_respond _ _).of_next hexec
  | tdec b0 b1 => exact (addsEventsAt_respond _ _).of_next hexec
  | init cfg => exact execInit_addsEventsAt hexec
  | rdtemp a present => exact execRdtemp_addsEventsAt hexec

/-- CFGENC accepts an address and does not use it. -/
theorem exec_cfgenc_devAddr_unused (a a' n : Byte) (p m d : Field) (s : State) :
    exec (.cfgenc a n p m d) s = exec (.cfgenc a' n p m d) s := rfl

/-- INIT accepts an address in its record and does not use it. -/
theorem exec_init_devAddr_unused (a a' n : Byte) (p m d : Field) (s : State) :
    exec (.init (some ⟨a, n, p, m, d⟩)) s = exec (.init (some ⟨a', n, p, m, d⟩)) s := rfl

/-- Settles O32: each instruction's calls are at its target, and the configuration's address is never read. -/
theorem eachOperationUsesItsAddress : Obligations.EachOperationUsesItsAddress :=
  ⟨fun i _ _ hexec => exec_addsEventsAt_target i hexec,
    fun a a' n p m d s => ⟨exec_cfgenc_devAddr_unused a a' n p m d s, exec_init_devAddr_unused a a' n p m d s⟩⟩

end Sys2Proof.Machine
end

section
/-! PROOFS. The tables and the raw field of 30_encoding.md: the fault-queue codes (R52), the two terms of `value11` (R54),
and the status codes (R57). -/

namespace Sys2Proof.Machine

/-! ## A value shifted into a wider word -/

/-- Shifting left by three loses no bit where the word is three bits wider. -/
theorem toNat_setWidth_shiftLeft_three {w v : Nat} (x : BitVec w) (h : w + 3 ≤ v) :
    (x.setWidth v <<< 3).toNat = 8 * x.toNat := by
  have hw : x.toNat < 2 ^ v := x.isLt.trans_le (Nat.pow_le_pow_right (by decide) (by omega))
  have hv : x.toNat * 8 < 2 ^ v := calc
    x.toNat * 8 < 2 ^ w * 2 ^ 3 := by have := x.isLt; omega
    _ = 2 ^ (w + 3) := (pow_add 2 w 3).symm
    _ ≤ 2 ^ v := Nat.pow_le_pow_right (by decide) h
  rw [BitVec.toNat_shiftLeft, BitVec.toNat_setWidth, Nat.mod_eq_of_lt hw, Nat.shiftLeft_eq, Nat.mod_eq_of_lt hv, mul_comm]

/-! ## The two terms of `value11` (R54) -/

theorem byte0_term_le (b0 : Byte) : (b0.setWidth 11 <<< 3 : Raw11).toNat ≤ 0x7F8 := by
  have := b0.isLt
  rw [toNat_setWidth_shiftLeft_three b0 (by decide)]
  omega

theorem byte1_term_le (b1 : Byte) : (b1 >>> 5).toNat ≤ 7 := by
  have := b1.isLt
  rw [BitVec.toNat_ushiftRight, Nat.shiftRight_eq_div_pow]
  omega

/-- The three bits of byte 1 that reach the field. -/
theorem byte1_term_eq_slice (b1 : Byte) : (b1 >>> 5).setWidth 11 = (b1.extractLsb' 5 3).setWidth 11 := by
  apply BitVec.eq_of_toNat_eq
  have := b1.isLt
  simp only [BitVec.toNat_setWidth, BitVec.toNat_ushiftRight, BitVec.extractLsb'_toNat, Nat.shiftRight_eq_div_pow]
  omega

/-- No bit is set in both terms: byte 0's are bits 10:3, byte 1's bits 2:0. -/
theorem byte_terms_disjoint (b0 b1 : Byte) : (b0.setWidth 11 <<< 3 : Raw11) &&& (b1 >>> 5).setWidth 11 = 0#11 := by
  rw [byte1_term_eq_slice]
  ext i hi
  by_cases hlow : i < 3
  · simp [hlow]
  · simp [hlow]

theorem assemble11_eq_add (b0 b1 : Byte) : assemble11 b0 b1 = (b0.setWidth 11 <<< 3) + (b1 >>> 5).setWidth 11 :=
  (BitVec.add_eq_or_of_and_eq_zero _ _ (byte_terms_disjoint b0 b1)).symm

theorem assemble11_eq_append (b0 b1 : Byte) : assemble11 b0 b1 = b0 ++ b1.extractLsb' 5 3 := by
  rw [assemble11, byte1_term_eq_slice, ← BitVec.setWidth_append_eq_shiftLeft_setWidth_or, BitVec.setWidth_eq]

/-! ## The pairs of bytes behind one field (R54) -/

/-- A pair gives the field `v` when byte 0 is `v[10:3]` and byte 1 begins with `v[2:0]`. -/
theorem assemble11_eq_iff (b0 b1 : Byte) (v : Raw11) :
    assemble11 b0 b1 = v ↔ b0 = v.extractLsb' 3 8 ∧ b1.extractLsb' 5 3 = v.extractLsb' 0 3 := by
  rw [assemble11_eq_append]
  constructor
  · rintro rfl
    exact ⟨BitVec.extractLsb'_append_eq_left.symm, BitVec.extractLsb'_append_eq_right.symm⟩
  · rintro ⟨rfl, h⟩
    rw [h]
    exact BitVec.extractLsb'_append_extractLsb' (w := 8) (len := 3)

/-- The pairs that give one field differ in the low five bits of byte 1, which are free. -/
def pairsOfFieldEquiv (v : Raw11) : { p : Byte × Byte // assemble11 p.1 p.2 = v } ≃ BitVec 5 where
  toFun p := p.1.2.extractLsb' 0 5
  invFun low := ⟨(v.extractLsb' 3 8, v.extractLsb' 0 3 ++ low),
    (assemble11_eq_iff _ _ v).mpr ⟨rfl, BitVec.extractLsb'_append_eq_left⟩⟩
  left_inv := by
    rintro ⟨⟨b0, b1⟩, h⟩
    obtain ⟨rfl, hhigh⟩ := (assemble11_eq_iff b0 b1 v).mp h
    have hb1 : v.extractLsb' 0 3 ++ b1.extractLsb' 0 5 = b1 := by
      rw [← hhigh]
      exact BitVec.extractLsb'_append_extractLsb' (w := 3) (len := 5)
    exact Subtype.ext (Prod.ext rfl hb1)
  right_inv _ := BitVec.extractLsb'_append_eq_right

theorem card_pairsOfField (v : Raw11) : Nat.card { p : Byte × Byte // assemble11 p.1 p.2 = v } = 32 := calc
  _ = Nat.card (Fin (2 ^ 5)) := Nat.card_congr ((pairsOfFieldEquiv v).trans BitVec.equivFin.toEquiv)
  _ = 32 := Nat.card_fin _

/-- Settles O20: the terms' bounds, their disjointness, and the five free bits of byte 1. -/
theorem fieldComesFromExactly32Pairs : Obligations.FieldComesFromExactly32Pairs :=
  ⟨fun b0 b1 => ⟨toNat_setWidth_shiftLeft_three b0 (by decide), byte0_term_le b0, byte1_term_le b1,
    assemble11_eq_add b0 b1, assemble11_eq_append b0 b1⟩, card_pairsOfField⟩

/-! ## The fault-queue table (R52) -/

theorem fqMap_fqSizeOf : ∀ c : FqCode, fqMap (fqSizeOf c).toNat = some c := by decide

/-- The lookup answers a code only for the code's own length. -/
theorem eq_fqSizeOf_of_fqMap {k : Int} {c : FqCode} (h : fqMap k = some c) : k = (fqSizeOf c).toNat := by
  unfold fqMap at h
  split_ifs at h with h1 h2 h4 h6
  · obtain rfl := Option.some.inj h; exact h1
  · obtain rfl := Option.some.inj h; exact h2
  · obtain rfl := Option.some.inj h; exact h4
  · obtain rfl := Option.some.inj h; exact h6

theorem fqMap_eq_some_iff (k : Int) (c : FqCode) : fqMap k = some c ↔ k = (fqSizeOf c).toNat :=
  ⟨eq_fqSizeOf_of_fqMap, fun h => h ▸ fqMap_fqSizeOf c⟩

/-- Settles O14: the two tables by their rows, each the other's inverse, and the shift that loses no bit of a code. -/
theorem faultQueueTableAndItsInverse : Obligations.FaultQueueTableAndItsInverse :=
  ⟨⟨fqMap_fqSizeOf 0b00, fqMap_fqSizeOf 0b01, fqMap_fqSizeOf 0b10, fqMap_fqSizeOf 0b11⟩, ⟨rfl, rfl, rfl, rfl⟩,
    fqMap_eq_some_iff, fun c => toNat_setWidth_shiftLeft_three c (by decide)⟩

/-! ## The outcomes and their ports (R57) -/

theorem status_cases (o : Status) : o = .ok ∨ o = .nullArgument ∨ o = .invalidArgument ∨ o = .busError := by
  cases o with
  | ok => exact .inl rfl
  | nullArgument => exact .inr (.inl rfl)
  | invalidArgument => exact .inr (.inr (.inl rfl))
  | busError => exact .inr (.inr (.inr rfl))

theorem hasStatusPort_iff (op : Op) : hasStatusPort op = true ↔ op = .fqmap ∨ op = .cfgenc ∨ op = .init ∨ op = .rdtemp := by
  cases op <;> decide

/-- An operation with a `status` port shows its outcome's code there. -/
theorem statusPort_of_hasStatusPort {op : Op} (h : hasStatusPort op = true) (r : Result) :
    (Response.mk op r).statusPort = some r.status.code := if_pos h

/-- The `bus_err` port shows the transport's own error (R103). -/
theorem busErrPort_busError (op : Op) (e : BusErrorInfo) : (Response.mk op (.err (.busError e))).busErrPort = some e := rfl

/-- Settles O33: the port's code is that of the result's outcome, whichever operation has the port. -/
theorem statusCodesAndBusErr : Obligations.StatusCodesAndBusErr :=
  ⟨status_cases, rfl, rfl, rfl, rfl, hasStatusPort_iff,
    fun _ h => ⟨fun p => statusPort_of_hasStatusPort h (.ok p), statusPort_of_hasStatusPort h (.err .nullArgument),
      statusPort_of_hasStatusPort h (.err .invalidArgument), fun e => statusPort_of_hasStatusPort h (.err (.busError e))⟩,
    busErrPort_busError⟩

end Sys2Proof.Machine
end

section
/-! PROOFS. The configuration register encoder of 40_config_encoder.md: what FQMAP answers (R70), the byte that CPACK assembles (R71),
the source's testable properties (R75), and purity (R76). -/

namespace Sys2Proof.Machine

/-! ## The lookup (R70) -/

/-- Exactly the four legal lengths have a code. -/
theorem fqMap_eq_none_iff (k : Int) : fqMap k = none ↔ k ≠ 1 ∧ k ≠ 2 ∧ k ≠ 4 ∧ k ≠ 6 := by
  unfold fqMap
  constructor
  · intro h
    split_ifs at h with h1 h2 h4 h6
    exact ⟨h1, h2, h4, h6⟩
  · rintro ⟨h1, h2, h4, h6⟩
    rw [if_neg h1, if_neg h2, if_neg h4, if_neg h6]

/-- The same on the `fq_size` port, taken as unsigned. -/
theorem fqMap_toNat_eq_none {n : Byte} (h1 : n.toNat ≠ 1) (h2 : n.toNat ≠ 2) (h4 : n.toNat ≠ 4) (h6 : n.toNat ≠ 6) :
    fqMap n.toNat = none :=
  (fqMap_eq_none_iff _).mpr (by omega)

theorem exec_fqmap_of_code {n : Byte} {c : FqCode} (h : fqMap n.toNat = some c) (s : State) :
    exec (.fqmap n) s = .next (s.respond .fqmap (.ok (.fqCode c))) := by
  rw [exec, execFqmap, h]

theorem exec_fqmap_of_no_code {n : Byte} (h : fqMap n.toNat = none) (s : State) :
    exec (.fqmap n) s = .next (s.respond .fqmap (.err .invalidArgument)) := by
  rw [exec, execFqmap, h, returnErr_eq_respond]

/-- FQMAP on the length of a code answers that code. -/
theorem exec_fqmap_of_fqSizeOf {n : Byte} {c : FqCode} (h : n.toNat = (fqSizeOf c).toNat) (s : State) :
    exec (.fqmap n) s = .next (s.respond .fqmap (.ok (.fqCode c))) :=
  exec_fqmap_of_code ((fqMap_eq_some_iff _ _).mpr (by rw [h])) s

/-- Settles O13: each legal length is the length of its code, and the lookup fails on all others. -/
theorem fqmapDeliversTheCode : Obligations.FqmapDeliversTheCode :=
  ⟨fun _ s => ⟨fun h => exec_fqmap_of_fqSizeOf (c := 0b00) h s, fun h => exec_fqmap_of_fqSizeOf (c := 0b01) h s,
    fun h => exec_fqmap_of_fqSizeOf (c := 0b10) h s, fun h => exec_fqmap_of_fqSizeOf (c := 0b11) h s,
    fun h1 h2 h4 h6 => exec_fqmap_of_no_code (fqMap_toNat_eq_none h1 h2 h4 h6) s⟩, fqMap_eq_none_iff⟩

/-! ## The assembled byte (R71) -/

/-- The source's formula on fields of any width: what is shifted past bit 7 is lost, and nothing else is. -/
theorem packFields_toNat (w : Nat) (c : FqCode) (p m d : BitVec w) :
    (packFields w c p m d).toNat = ((c.toNat <<< 3) ||| (p.toNat <<< 2) ||| (m.toNat <<< 1) ||| d.toNat) % 2 ^ 8 := by
  simp only [packFields, BitVec.toNat_or, BitVec.toNat_shiftLeft, BitVec.toNat_setWidth, Nat.mod_two_pow_shiftLeft_mod_two_pow,
    Nat.or_mod_two_pow]

/-- The number that two words written one after the other stand for. -/
theorem toNat_append_eq_add {v w : Nat} (x : BitVec v) (y : BitVec w) : (x ++ y).toNat = 2 ^ w * x.toNat + y.toNat := by
  rw [BitVec.toNat_append, ← Nat.shiftLeft_add_eq_or_of_lt y.isLt, Nat.shiftLeft_eq, mul_comm]

/-- A slice of a byte, as division and remainder. -/
theorem extractLsb'_eq_iff {b : Byte} {start len : Nat} {x : BitVec len} :
    b.extractLsb' start len = x ↔ b.toNat / 2 ^ start % 2 ^ len = x.toNat := by
  rw [← BitVec.toNat_inj, BitVec.extractLsb'_toNat, Nat.shiftRight_eq_div_pow]

section

variable (c : FqCode) (p m d : Field)

/-- With one-bit fields no two terms of the formula share a bit: the byte is the pattern `000qqpmd` (R51). -/
theorem packByte_eq_append : packByte c p m d = (c ++ p ++ m ++ d).setWidth 8 := by
  rw [BitVec.setWidth_append_append_append_eq_shiftLeft_setWidth_or, packByte, packFields]

/-- So the OR is a sum. -/
theorem packByte_toNat : (packByte c p m d).toNat = 8 * c.toNat + 4 * p.toNat + 2 * m.toNat + d.toNat := by
  rw [packByte_eq_append, BitVec.toNat_setWidth_of_le (by decide)]
  simp only [toNat_append_eq_add]
  omega

theorem packByte_toNat_le : (packByte c p m d).toNat ≤ 0x1F := by
  rw [packByte_toNat]
  omega

/-- Each operand stands in its own bits, below three zeros. -/
theorem packByte_slices :
    (packByte c p m d).extractLsb' 5 3 = 0 ∧ (packByte c p m d).extractLsb' 3 2 = c ∧ (packByte c p m d).extractLsb' 2 1 = p ∧
    (packByte c p m d).extractLsb' 1 1 = m ∧ (packByte c p m d).extractLsb' 0 1 = d := by
  simp only [extractLsb'_eq_iff, packByte_toNat, BitVec.ofNat_eq_ofNat, BitVec.toNat_ofNat]
  refine ⟨?_, ?_, ?_, ?_, ?_⟩ <;> omega

/-- Bits 2:0 are the three fields in the order of the formula (R75). -/
theorem packByte_lowBits :
    (packByte c p m d).extractLsb' 0 3 = (p.setWidth 3 <<< 2) ||| (m.setWidth 3 <<< 1) ||| d.setWidth 3 := by
  have hfields : (p.setWidth 3 <<< 2) ||| (m.setWidth 3 <<< 1) ||| d.setWidth 3 = p ++ m ++ d := by
    rw [← BitVec.setWidth_append_append_eq_shiftLeft_setWidth_or (w' := 1) (w'' := 1), BitVec.setWidth_eq]
  rw [hfields, extractLsb'_eq_iff, packByte_toNat, toNat_append_eq_add, toNat_append_eq_add]
  omega

end

/-- No two operand lists give one byte: each operand can be read back. -/
theorem packByte_injective {c c' : FqCode} {p p' m m' d d' : Field} (h : packByte c p m d = packByte c' p' m' d') :
    c = c' ∧ p = p' ∧ m = m' ∧ d = d' := by
  obtain ⟨-, hc, hp, hm, hd⟩ := packByte_slices c p m d
  obtain ⟨-, hc', hp', hm', hd'⟩ := packByte_slices c' p' m' d'
  rw [h] at hc hp hm hd
  exact ⟨hc.symm.trans hc', hp.symm.trans hp', hm.symm.trans hm', hd.symm.trans hd'⟩

/-- Assembling the slices of a byte gives it back without its reserved bits 7:5. -/
theorem packByte_extractLsb'_toNat (b : Byte) :
    (packByte (b.extractLsb' 3 2) (b.extractLsb' 2 1) (b.extractLsb' 1 1) (b.extractLsb' 0 1)).toNat = b.toNat % 0x20 := by
  simp only [packByte_toNat, BitVec.extractLsb'_toNat, Nat.shiftRight_eq_div_pow]
  omega

theorem exists_packByte_eq {b : Byte} (hb : b.toNat ≤ 0x1F) : ∃ c p m d, packByte c p m d = b := by
  refine ⟨b.extractLsb' 3 2, b.extractLsb' 2 1, b.extractLsb' 1 1, b.extractLsb' 0 1, BitVec.eq_of_toNat_eq ?_⟩
  rw [packByte_extractLsb'_toNat]
  omega

/-- Settles O15: the byte by its formula, as a sum, slice by slice; the slices give injectivity and the image. -/
theorem cpackAssemblesTheByte : Obligations.CpackAssemblesTheByte := by
  refine ⟨fun c p m d _ => ?_, fun _ _ _ _ _ _ _ _ => packByte_injective, fun _ => exists_packByte_eq, packFields_toNat 8⟩
  obtain ⟨hzero, hc, hp, hm, hd⟩ := packByte_slices c p m d
  exact ⟨packByte c p m d, rfl, rfl, packByte_toNat c p m d, hzero, hc, hp, hm, hd, packByte_toNat_le c p m d⟩

/-! ## The encoder's contract (R75, R76) -/

/-- CFGENC on an illegal length answers before any bus call (R73). -/
theorem exec_cfgenc_of_no_code {n : Byte} (h : fqMap n.toNat = none) (a : Byte) (p m d : Field) {s : State} (hidle : s.inFlight = none) :
    exec (.cfgenc a n p m d) s = .next (s.respond .cfgenc (.err .invalidArgument)) := by
  rw [exec, execCfgenc, whenIdle_none _ hidle, configure, h, returnErr_eq_respond]
  rfl

/-- Settles O18: the table's rows, the early answer, and the low bits of the assembled byte. -/
theorem encoderTestableProperties : Obligations.EncoderTestableProperties :=
  ⟨⟨fqMap_fqSizeOf 0b00, fqMap_fqSizeOf 0b01, fqMap_fqSizeOf 0b10, fqMap_fqSizeOf 0b11⟩,
    fun a _ p m d _ hidle h1 h2 h4 h6 => exec_cfgenc_of_no_code (fqMap_toNat_eq_none h1 h2 h4 h6) a p m d hidle,
    fun k h1 h2 h4 h6 => (fqMap_eq_none_iff k).mpr ⟨h1, h2, h4, h6⟩, packByte_lowBits⟩

/-- FQMAP has one result for each operand, whatever the state. -/
theorem exists_exec_fqmap_eq_respond (n : Byte) : ∃ r : Result, ∀ s : State, exec (.fqmap n) s = .next (s.respond .fqmap r) := by
  match h : fqMap n.toNat with
  | some c => exact ⟨_, exec_fqmap_of_code h⟩
  | none => exact ⟨_, exec_fqmap_of_no_code h⟩

/-- A pure operation only delivers a result that its operands fix (R76, R88). -/
theorem exists_exec_eq_respond {i : Instr} (hpure : usesBus i = false) :
    ∃ r : Result, ∀ s : State, exec i s = .next (s.respond i.op r) := by
  cases i with
  | fqmap n => exact exists_exec_fqmap_eq_respond n
  | cpack c p m d => exact ⟨_, fun _ => rfl⟩
  | cunpack b => exact ⟨_, fun _ => rfl⟩
  | tasm b0 b1 => exact ⟨_, fun _ => rfl⟩
  | s11f v => exact ⟨_, fun _ => rfl⟩
  | tdec b0 b1 => exact ⟨_, fun _ => rfl⟩
  | cfgenc a n p m d => simp [usesBus] at hpure
  | init cfg => simp [usesBus] at hpure
  | rdtemp a present => simp [usesBus] at hpure

/-- What a configuration write delivers is fixed by the byte and the transport's one answer. -/
theorem exists_configWrite_response_eq (caller : ConfigCaller) (b : Byte) (ans : Answer Unit) :
    ∃ r : Result, ∀ (s : State) (rest : List (Answer Unit)), s.sendAnswers = ans :: rest →
      (configWrite caller b s).response = some ⟨caller.op, r⟩ := by
  match ans with
  | .ok () => exact ⟨_, fun s rest hs => by rw [configWrite_ok _ _ hs, respond_response]⟩
  | .busError e => exact ⟨_, fun s rest hs => by rw [configWrite_failed _ _ hs, respond_response]⟩

/-- So is what the whole contract delivers, by the operands and that answer. -/
theorem exists_configure_response_eq (caller : ConfigCaller) (n : Byte) (p m d : Field) (ans : Answer Unit) :
    ∃ r : Result, ∀ (s : State) (rest : List (Answer Unit)), s.sendAnswers = ans :: rest →
      (configure caller n p m d s).response = some ⟨caller.op, r⟩ := by
  unfold configure
  match fqMap n.toNat with
  | none => exact ⟨_, fun _ _ _ => rfl⟩
  | some c => exact exists_configWrite_response_eq caller _ ans

/-- Settles O43: pure operations deliver a fixed result, and CFGENC one that its operands and one answer fix. -/
theorem pureOperationsReadOnlyTheirOperands : Obligations.PureOperationsReadOnlyTheirOperands := by
  refine ⟨fun _ => exists_exec_eq_respond, fun a n p m d ans s₁ s₂ t₁ rest₁ rest₂ _ hidle₂ hs₁ hs₂ hexec => ?_⟩
  obtain ⟨r, hr⟩ := exists_configure_response_eq .cfgenc n p m d ans
  obtain ⟨-, rfl⟩ := whenIdle_next hexec
  exact ⟨_, whenIdle_none _ hidle₂, (hr s₂ rest₂ hs₂).trans (hr s₁ rest₁ hs₁).symm⟩

end Sys2Proof.Machine
end

section
/-! PROOFS. The temperature decoder of 41_temperature_decoder.md: the field that TASM assembles (R80), the signed count that S11F
reads from it (R81), their composition TDEC (R82), and the decoder's range (R85). -/

namespace Sys2Proof.Machine

/-! ## The field from its two bytes (R80) -/

/-- The three bits of byte 1 stand for a division by 32. -/
theorem assemble11_toNat (b0 b1 : Byte) : (assemble11 b0 b1).toNat = 8 * b0.toNat + b1.toNat / 32 := by
  have := b1.isLt
  rw [assemble11_eq_append, toNat_append_eq_add, BitVec.extractLsb'_toNat, Nat.shiftRight_eq_div_pow]
  omega

/-- The mask `0xE0` keeps the whole slice that the field takes from byte 1. -/
theorem assemble11_and_highBits (b0 b1 : Byte) : assemble11 b0 (b1 &&& 0xE0) = assemble11 b0 b1 := by
  have hmask : (0xE0 : Byte).extractLsb' 5 3 = BitVec.allOnes 3 := by decide
  rw [assemble11_eq_append, assemble11_eq_append, BitVec.extractLsb'_and, hmask, BitVec.and_allOnes]

theorem assemble11_signBit (b0 b1 : Byte) : (assemble11 b0 b1).getLsbD 10 = b0.getLsbD 7 := by
  rw [assemble11_eq_append, BitVec.getLsbD_append]
  rfl

/-- Every field is assembled from some pair: the one whose free bits are zero. -/
theorem exists_assemble11_eq (v : Raw11) : ∃ b0 b1, assemble11 b0 b1 = v :=
  let pair := (pairsOfFieldEquiv v).symm 0
  ⟨pair.1.1, pair.1.2, pair.2⟩

/-- Settles O19: the field by its formula, as a slice and as a sum; the slices give the law of the mask and the sign bit. -/
theorem tasmAssemblesTheField : Obligations.TasmAssemblesTheField := fun b0 b1 _ =>
  ⟨assemble11 b0 b1, rfl, rfl, assemble11_eq_append b0 b1, assemble11_toNat b0 b1, assemble11_and_highBits b0 b1,
    assemble11_signBit b0 b1⟩

/-! ## The signed count of a field (R81) -/

/-- Inverting the eleven bits subtracts from `0x7FF`. -/
theorem toNat_xor_ones (v : Raw11) : v.toNat ^^^ 0x7FF = 2047 - v.toNat := by
  have hnot : v ^^^ 0x7FF = ~~~v := BitVec.xor_allOnes
  calc v.toNat ^^^ 0x7FF = (v ^^^ 0x7FF).toNat := (BitVec.toNat_xor v 0x7FF).symm
    _ = 2047 - v.toNat := by rw [hnot, BitVec.toNat_not]

/-- Two's complement of eleven bits. -/
theorem raw11_toInt (v : Raw11) : v.toInt = if v.toNat < 1024 then (v.toNat : Int) else (v.toNat : Int) - 2048 := by
  rw [BitVec.toInt_eq_toNat_cond]
  split_ifs <;> omega

/-- Bit 10 is set exactly on the upper half of the fields. -/
theorem raw11_signBit_iff (v : Raw11) : v.getLsbD 10 = true ↔ 1024 ≤ v.toNat := by
  rw [← BitVec.msb_eq_getLsbD_last v, BitVec.msb_eq_true_iff_two_mul_ge]
  omega

/-- On the negative branch, invert and add one, then negate, is two's complement. -/
theorem toInt_of_signBit {v : Raw11} (h : v.getLsbD 10 = true) : v.toInt = -(((v.toNat ^^^ 0x7FF) + 1 : Nat) : Int) := by
  have hv := v.isLt
  have hneg := (raw11_signBit_iff v).mp h
  rw [toNat_xor_ones, raw11_toInt, if_neg (by omega)]
  omega

theorem toInt_of_no_signBit {v : Raw11} (h : v.getLsbD 10 = false) : v.toInt = v.toNat := by
  have hpos : v.toNat < 1024 := by rwa [← Bool.not_eq_true, raw11_signBit_iff, Nat.not_le] at h
  rw [raw11_toInt, if_pos hpos]

/-- The source's steps compute the two's-complement value: adding one to the inverted bits never overflows. -/
theorem signDecode_eq_toInt (v : Raw11) : signDecode v = v.toInt := by
  unfold signDecode
  split_ifs with h
  · have hneg := (raw11_signBit_iff v).mp h
    have hsum : ((v ^^^ 0x7FF) + 1).toNat = (v.toNat ^^^ 0x7FF) + 1 := calc
      _ = ((v.toNat ^^^ 0x7FF) + 1) % 2 ^ 11 := rfl
      _ = (v.toNat ^^^ 0x7FF) + 1 := Nat.mod_eq_of_lt (by rw [toNat_xor_ones]; omega)
    rw [hsum, toInt_of_signBit h]
  · exact (toInt_of_no_signBit (Bool.eq_false_of_not_eq_true h)).symm

/-! ## The temperature of a field (R55, R81) -/

@[simp] theorem decode11_tempQ3 (v : Raw11) : (decode11 v).tempQ3 = v := by
  rw [decode11, temperatureOf, signDecode_eq_toInt, BitVec.ofInt_toInt]

@[simp] theorem decode11_count (v : Raw11) : (decode11 v).count = v.toInt := by
  rw [Temperature.count, decode11_tempQ3]

@[simp] theorem decode11_tempF32 (v : Raw11) : (decode11 v).tempF32 = f32 v.toInt := by
  rw [decode11, temperatureOf, signDecode_eq_toInt]

theorem decode11_celsius (v : Raw11) : (decode11 v).celsius = (v.toInt : ℚ) / 8 := by
  rw [Temperature.celsius, decode11_count]

/-- The port `temp_q3` shows the field itself, so no two fields have one temperature. -/
theorem decode11_inj {v w : Raw11} : decode11 v = decode11 w ↔ v = w := by
  constructor
  · intro h
    simpa using congrArg Temperature.tempQ3 h
  · exact congrArg decode11

theorem raw11_toInt_bounds (v : Raw11) : -1024 ≤ v.toInt ∧ v.toInt ≤ 1023 :=
  ⟨BitVec.le_toInt v, Int.le_of_lt_add_one (BitVec.toInt_lt (x := v))⟩

/-! ## The binary32 pattern (R55) -/

/-- The bits of `m` below its leading one, moved up to bit 22 (R55). -/
def fractionBits (m : Nat) : Nat := (m - 2 ^ Nat.log2 m) <<< (23 - Nat.log2 m)

theorem fractionBits_lt {m : Nat} (hlog : Nat.log2 m ≤ 23) : fractionBits m < 2 ^ 23 := by
  have hlow : m - 2 ^ Nat.log2 m < 2 ^ Nat.log2 m := by
    have := Nat.lt_log2_self (n := m)
    rw [pow_succ] at this
    omega
  calc fractionBits m = (m - 2 ^ Nat.log2 m) * 2 ^ (23 - Nat.log2 m) := Nat.shiftLeft_eq _ _
    _ < 2 ^ Nat.log2 m * 2 ^ (23 - Nat.log2 m) := Nat.mul_lt_mul_of_pos_right hlow (Nat.two_pow_pos _)
    _ = 2 ^ 23 := by rw [← pow_add, Nat.add_sub_cancel' hlog]

/-- Sign, exponent and fraction side by side are a sum. -/
theorem patternParts_eq_add {s e frac : Nat} (he : e < 2 ^ 8) (hfrac : frac < 2 ^ 23) :
    (s <<< 31) ||| (e <<< 23) ||| frac = s * 2 ^ 31 + (e * 2 ^ 23 + frac) := by
  have hlow : e * 2 ^ 23 + frac < 2 ^ 31 := by omega
  rw [Nat.or_assoc, ← Nat.shiftLeft_add_eq_or_of_lt hfrac, Nat.shiftLeft_eq e, ← Nat.shiftLeft_add_eq_or_of_lt hlow, Nat.shiftLeft_eq]

/-- The three parts of a non-zero number's pattern. -/
theorem f32_toNat {k : Int} (hk : k ≠ 0) (hlog : Nat.log2 k.natAbs ≤ 23) :
    (f32 k).toNat = (if k < 0 then 1 else 0) * 2 ^ 31 + ((Nat.log2 k.natAbs + 124) * 2 ^ 23 + fractionBits k.natAbs) := by
  have hfrac := fractionBits_lt hlog
  rw [f32, if_neg hk]
  simp only [BitVec.toNat_ofNat]
  rw [← fractionBits, patternParts_eq_add (by omega) hfrac]
  apply Nat.mod_eq_of_lt
  split_ifs <;> omega

/-- Zero has the positive pattern, and the exponent of any other number is not zero. -/
theorem f32_ne_negativeZero {k : Int} (hrange : k.natAbs ≤ 1024) : f32 k ≠ 0x80000000 := by
  rcases eq_or_ne k 0 with rfl | hk
  · decide
  · intro hzero
    have hlog : Nat.log2 k.natAbs ≤ 23 := Nat.le_of_lt_succ ((Nat.log2_lt (Int.natAbs_ne_zero.mpr hk)).mpr (by omega))
    have hfrac := fractionBits_lt hlog
    have hparts : 2 ^ 31 = _ := (congrArg BitVec.toNat hzero).symm.trans (f32_toNat hk hlog)
    split_ifs at hparts <;> omega

/-- Settles O21: the count is the field's two's-complement value, which both the closed form and the source's steps give. -/
theorem s11fDeliversTheSignedEighths : Obligations.S11fDeliversTheSignedEighths := by
  intro v s
  obtain ⟨hlow, hhigh⟩ := raw11_toInt_bounds v
  refine ⟨decode11 v, rfl, ?_⟩
  rw [decode11_count, decode11_tempF32, decode11_celsius]
  exact ⟨raw11_toInt v, toInt_of_signBit, toInt_of_no_signBit, by ring, rfl, f32_ne_negativeZero (by omega)⟩

/-! ## The two bytes of a sample (R82) -/

/-- The sign test on the field is a test on byte 0. -/
theorem assemble11_toInt (b0 b1 : Byte) : (assemble11 b0 b1).toInt =
    if b0.toNat < 128 then ((8 * b0.toNat + b1.toNat / 32 : Nat) : Int) else ((8 * b0.toNat + b1.toNat / 32 : Nat) : Int) - 2048 := by
  have := b1.isLt
  have hhalf : 8 * b0.toNat + b1.toNat / 32 < 1024 ↔ b0.toNat < 128 := by omega
  rw [raw11_toInt, assemble11_toNat, if_congr hhalf rfl rfl]

theorem decodeSample_count (b0 b1 : Byte) : (decodeSample b0 b1).count = (assemble11 b0 b1).toInt := decode11_count _

theorem decodeSample_celsius (b0 b1 : Byte) : (decodeSample b0 b1).celsius = ((assemble11 b0 b1).toInt : ℚ) / 8 :=
  decode11_celsius _

theorem celsius_neg_iff (t : Temperature) : t.celsius < 0 ↔ t.count < 0 := by
  rw [Temperature.celsius, div_lt_iff₀ (by norm_num), zero_mul, Int.cast_lt_zero]

theorem decodeSample_celsius_neg_iff (b0 b1 : Byte) : (decodeSample b0 b1).celsius < 0 ↔ 0x80 ≤ b0.toNat := by
  have := b0.isLt
  have := b1.isLt
  rw [celsius_neg_iff, decodeSample_count, assemble11_toInt]
  split_ifs <;> omega

/-- The pairs that give one temperature are those that give its field. -/
theorem card_pairsOfTemperature (v : Raw11) : Nat.card { p : Byte × Byte // decodeSample p.1 p.2 = decode11 v } = 32 := by
  simp only [decodeSample, decode11_inj]
  exact card_pairsOfField v

/-- The source's second case, as the spec corrects it. -/
theorem decodeSample_minus55 : (decodeSample 0xC9 0x00).celsius = -55 := by
  have hcount : (assemble11 0xC9 0x00).toInt = -440 := by decide
  rw [decodeSample_celsius, hcount]
  norm_num

/-- Settles O22: the count and the pairs are those of the assembled field. -/
theorem tdecDecodesTheTwoBytes : Obligations.TdecDecodesTheTwoBytes :=
  ⟨fun b0 b1 _ => ⟨decodeSample b0 b1, rfl, rfl, (decodeSample_count b0 b1).trans (assemble11_toInt b0 b1), rfl,
    congrArg decode11 (assemble11_and_highBits b0 b1), decodeSample_celsius_neg_iff b0 b1, card_pairsOfTemperature _⟩,
    decodeSample_minus55⟩

/-! ## The range (R85) -/

theorem decode11_celsius_bounds (v : Raw11) : -128 ≤ (decode11 v).celsius ∧ (decode11 v).celsius ≤ 127.875 := by
  obtain ⟨hlow, hhigh⟩ := raw11_toInt_bounds v
  have hlow' : (-1024 : ℚ) ≤ v.toInt := by exact_mod_cast hlow
  have hhigh' : (v.toInt : ℚ) ≤ 1023 := by exact_mod_cast hhigh
  rw [decode11_celsius]
  constructor <;> linarith

/-- Every count in range is the value of a field, and so of a pair of bytes. -/
theorem exists_assemble11_toInt_eq {k : Int} (hlow : -1024 ≤ k) (hhigh : k ≤ 1023) : ∃ b0 b1, (assemble11 b0 b1).toInt = k := by
  obtain ⟨b0, b1, hfield⟩ := exists_assemble11_eq (BitVec.ofInt 11 k)
  refine ⟨b0, b1, ?_⟩
  rw [hfield]
  exact BitVec.toInt_ofInt_eq_self (by decide) hlow (Int.lt_add_one_of_le hhigh)

theorem exists_decodeSample_celsius_iff (q : ℚ) :
    (∃ b0 b1 : Byte, (decodeSample b0 b1).celsius = q) ↔ ∃ k : Int, -1024 ≤ k ∧ k ≤ 1023 ∧ q = (k : ℚ) / 8 := by
  constructor
  · rintro ⟨b0, b1, rfl⟩
    obtain ⟨hlow, hhigh⟩ := raw11_toInt_bounds (assemble11 b0 b1)
    exact ⟨_, hlow, hhigh, decodeSample_celsius b0 b1⟩
  · rintro ⟨k, hlow, hhigh, rfl⟩
    obtain ⟨b0, b1, rfl⟩ := exists_assemble11_toInt_eq hlow hhigh
    exact ⟨b0, b1, decodeSample_celsius b0 b1⟩

/-- Settles O24: the counts are the eleven-bit signed numbers, all of them, and TDEC has no other outcome. -/
theorem decoderRangeIsExactly2048Values : Obligations.DecoderRangeIsExactly2048Values :=
  ⟨fun _ _ => decode11_celsius_bounds _, exists_decodeSample_celsius_iff, fun _ _ _ => rfl⟩

end Sys2Proof.Machine
end

section
/-! PROOFS. The error kinds of 60_exceptions.md: what each arises from, with the bus calls made before it (R100 to R103), what cannot fail
(R104), and which of two errors is reported (R105). An operation either fails a check of its own operands, or ends as its bus calls end. -/

namespace Sys2Proof.Machine

variable {s t u : State} {i : Instr} {op : Op} {before : List BusEvent}

/-! ## The checks before any bus call (R101, R102) -/

/-- The operands of `i` fail a check, which reports `k`. -/
inductive ArgumentError : Instr → ErrorKind → Prop where
  | nullConfig : ArgumentError (.init none) .nullArgument
  | nullDestination (a : Byte) : ArgumentError (.rdtemp a false) .nullArgument
  | illegalLength {i : Instr} {n : Byte} (hlen : lengthChecked i = some n) (hcode : fqMap n.toNat = none) :
      ArgumentError i .invalidArgument

theorem ArgumentError.nullArgument_iff : ArgumentError i .nullArgument ↔ i = .init none ∨ ∃ a, i = .rdtemp a false := by
  constructor
  · intro h
    cases h with
    | nullConfig => exact .inl rfl
    | nullDestination a => exact .inr ⟨a, rfl⟩
  · rintro (rfl | ⟨a, rfl⟩)
    · exact .nullConfig
    · exact .nullDestination a

theorem ArgumentError.invalidArgument_iff :
    ArgumentError i .invalidArgument ↔ ∃ n, lengthChecked i = some n ∧ fqMap n.toNat = none :=
  ⟨fun | .illegalLength hlen hcode => ⟨_, hlen, hcode⟩, fun ⟨_, hlen, hcode⟩ => .illegalLength hlen hcode⟩

/-- The block creates no `BusError` of its own (R103). -/
theorem ArgumentError.ne_busError {k : ErrorKind} (h : ArgumentError i k) (e : BusErrorInfo) : k ≠ .busError e := by
  cases h <;> simp

/-- On an illegal length the configuration write is not tried (R73). -/
theorem configure_of_no_code {n : Byte} (hcode : fqMap n.toNat = none) (caller : ConfigCaller) (p m d : Field) (s : State) :
    configure caller n p m d s = s.respond caller.op (.err .invalidArgument) := by
  rw [configure, hcode, returnErr_eq_respond]

theorem configure_of_code {n : Byte} {c : FqCode} (hcode : fqMap n.toNat = some c) (caller : ConfigCaller) (p m d : Field) (s : State) :
    configure caller n p m d s = configWrite caller (packByte c p m d) s := by
  rw [configure, hcode]

theorem exec_cfgenc_eq_configure (hidle : s.inFlight = none) (a n : Byte) (p m d : Field) :
    exec (.cfgenc a n p m d) s = .next (configure .cfgenc n p m d s) := whenIdle_none _ hidle

theorem exec_init_some_eq_configure (hidle : s.inFlight = none) (c : DeviceConfig) :
    exec (.init (some c)) s = .next (configure .init c.fqSize c.osPol c.osMode c.devMode s) := whenIdle_none _ hidle

theorem exec_rdtemp_true_eq_readTemperature (hidle : s.inFlight = none) (a : Byte) :
    exec (.rdtemp a true) s = .next (readTemperature a s) := whenIdle_none _ hidle

/-- Only a bus operation needs the block idle (U8). -/
theorem inFlight_eq_none_of_exec_eq_next (hexec : exec i s = .next t) (hbus : usesBus i = true) : s.inFlight = none := by
  cases i with
  | cfgenc a n p m d => exact (whenIdle_next hexec).1
  | init cfg => cases cfg <;> exact (whenIdle_next hexec).1
  | rdtemp a present => cases present <;> exact (whenIdle_next hexec).1
  | fqmap n => cases hbus
  | cpack c p m d => cases hbus
  | cunpack b => cases hbus
  | tasm b0 b1 => cases hbus
  | s11f v => cases hbus
  | tdec b0 b1 => cases hbus

theorem exec_of_illegalLength {n : Byte} (hlen : lengthChecked i = some n) (hcode : fqMap n.toNat = none)
    (hidle : usesBus i = true → s.inFlight = none) : exec i s = .next (s.respond i.op (.err .invalidArgument)) := by
  cases i with
  | fqmap _ => cases hlen; exact exec_fqmap_of_no_code hcode s
  | cfgenc a _ p m d => cases hlen; exact exec_cfgenc_of_no_code hcode a p m d (hidle rfl)
  | init cfg =>
    cases cfg with
    | none => cases hlen
    | some c =>
      cases hlen
      rw [exec_init_some_eq_configure (hidle rfl), configure_of_no_code hcode]
      rfl
  | cpack c p m d => cases hlen
  | cunpack b => cases hlen
  | tasm b0 b1 => cases hlen
  | s11f v => cases hlen
  | tdec b0 b1 => cases hlen
  | rdtemp a present => cases hlen

/-- A check that fails is the operation's whole result: the bus is not tried, whatever it would answer (R105). -/
theorem exec_of_argumentError {k : ErrorKind} (h : ArgumentError i k) (hidle : usesBus i = true → s.inFlight = none) :
    exec i s = .next (s.respond i.op (.err k)) := by
  cases h with
  | nullConfig => exact whenIdle_none _ (hidle rfl)
  | nullDestination a => exact whenIdle_none _ (hidle rfl)
  | illegalLength hlen hcode => exact exec_of_illegalLength hlen hcode hidle

theorem ArgumentError.eq_respond {k : ErrorKind} (h : ArgumentError i k) (hexec : exec i s = .next t) :
    t = s.respond i.op (.err k) :=
  Host.Outcome.next.inj (hexec.symm.trans (exec_of_argumentError h (inFlight_eq_none_of_exec_eq_next hexec)))

/-! ## How the bus calls end (R103) -/

/-- Every call that returned from `s` to `t` succeeded, and no error is reported. -/
structure Unfailed (s t : State) : Prop where
  events : ∃ new, t.bus = s.bus ++ new ∧ ∀ ev ∈ new, ev.failure = none
  response : ∀ op k, t.response ≠ some ⟨op, .err k⟩

/-- The last call failed, after those of `before`, and its error is the operation's result. -/
def EndsInFailure (op : Op) (before : List BusEvent) (s t : State) : Prop :=
  ∃ failing e, t.bus = s.bus ++ before ++ [failing] ∧ failing.failure = some e ∧ t.response = some ⟨op, .err (.busError e)⟩

theorem Unfailed.of_bus_eq (hbus : t.bus = s.bus) (hresp : ∀ op k, t.response ≠ some ⟨op, .err k⟩) : Unfailed s t :=
  ⟨⟨[], by simp [hbus]⟩, hresp⟩

theorem Unfailed.of_event {ev : BusEvent} (hbus : t.bus = s.bus ++ [ev]) (hev : ev.failure = none)
    (hresp : ∀ op k, t.response ≠ some ⟨op, .err k⟩) : Unfailed s t :=
  ⟨⟨[ev], hbus, by simpa using hev⟩, hresp⟩

/-- A call that succeeds may come before. -/
theorem Unfailed.after_event {ev : BusEvent} (h : Unfailed u t) (hbus : u.bus = s.bus ++ [ev]) (hev : ev.failure = none) :
    Unfailed s t := by
  obtain ⟨new, ht, hnew⟩ := h.events
  exact ⟨⟨ev :: new, by simp [ht, hbus], by simpa [hev] using hnew⟩, h.response⟩

theorem EndsInFailure.of_event {ev : BusEvent} {e : BusErrorInfo} (hbus : t.bus = s.bus ++ [ev]) (hev : ev.failure = some e)
    (hresp : t.response = some ⟨op, .err (.busError e)⟩) : EndsInFailure op [] s t :=
  ⟨ev, e, by simpa using hbus, hev, hresp⟩

theorem EndsInFailure.after_event {ev : BusEvent} (h : EndsInFailure op [] u t) (hbus : u.bus = s.bus ++ [ev]) :
    EndsInFailure op [ev] s t := by
  obtain ⟨failing, e, ht, hfail, hresp⟩ := h
  exact ⟨failing, e, by simp [ht, hbus], hfail, hresp⟩

theorem unfailed_respond_ok (s : State) (op : Op) (p : Payload) : Unfailed s (s.respond op (.ok p)) :=
  .of_bus_eq rfl (by simp)

/-- The configuration write is one call: it fails or it does not. -/
theorem configWrite_ends (caller : ConfigCaller) (b : Byte) (s : State) :
    Unfailed s (configWrite caller b s) ∨ EndsInFailure caller.op [] s (configWrite caller b s) := by
  match hs : s.sendAnswers with
  | [] => rw [configWrite_unanswered _ _ hs]; exact .inl (.of_bus_eq rfl (by simp))
  | .ok () :: rest => rw [configWrite_ok _ _ hs]; exact .inl (.of_event rfl rfl (by simp))
  | .busError e :: rest => rw [configWrite_failed _ _ hs]; exact .inr (.of_event rfl rfl rfl)

/-- So is RDTEMP's receive. -/
theorem receiveTemperature_ends (a : Byte) (s : State) :
    Unfailed s (receiveTemperature a s) ∨ EndsInFailure .rdtemp [] s (receiveTemperature a s) := by
  match hr : s.recvAnswers with
  | [] => rw [receiveTemperature_unanswered _ hr]; exact .inl (.of_bus_eq rfl (by simp))
  | .ok (b0, b1) :: rest => rw [receiveTemperature_ok _ hr]; exact .inl (.of_event rfl rfl (by simp))
  | .busError e :: rest => rw [receiveTemperature_failed _ hr]; exact .inr (.of_event rfl rfl rfl)

/-- RDTEMP fails in its pointer send, or in its receive after a pointer send that succeeded. -/
theorem readTemperature_ends (a : Byte) (s : State) :
    Unfailed s (readTemperature a s) ∨ EndsInFailure .rdtemp [] s (readTemperature a s) ∨
      EndsInFailure .rdtemp [.send a [0x00] (.ok ())] s (readTemperature a s) := by
  match hs : s.sendAnswers with
  | [] => rw [readTemperature_unanswered _ hs]; exact .inl (.of_bus_eq rfl (by simp))
  | .busError e :: rest => rw [readTemperature_failed _ hs]; exact .inr (.inl (.of_event rfl rfl rfl))
  | .ok () :: rest =>
    rw [readTemperature_ok _ hs]
    rcases receiveTemperature_ends a _ with h | h
    · exact .inl (h.after_event rfl rfl)
    · exact .inr (.inr (h.after_event rfl))

/-! ## Everything an operation can end as -/

/-- The calls that may come before the failing one: none, or RDTEMP's successful step 1 (R100). -/
def CallsBeforeFailure (i : Instr) (before : List BusEvent) : Prop :=
  before = [] ∨ ∃ a, i = .rdtemp a true ∧ before = [.send a [0x00] (.ok ())]

theorem CallsBeforeFailure.failure_eq_none (h : CallsBeforeFailure i before) : ∀ ev ∈ before, ev.failure = none := by
  rcases h with rfl | ⟨a, -, rfl⟩
  · simp
  · simp [BusEvent.failure]

/-- The operands of `i` failed a check, or no call failed, or one did and ended the operation. -/
inductive ExecEnds (i : Instr) (s t : State) : Prop where
  | argumentError {k : ErrorKind} (h : ArgumentError i k)
  | unfailed (h : Unfailed s t)
  | failed {before : List BusEvent} (hbus : usesBus i = true) (hbefore : CallsBeforeFailure i before)
      (h : EndsInFailure i.op before s t)

theorem ExecEnds.of_respond_ok {p : Payload}
    (hnext : (.next (s.respond op (.ok p)) : Host.Outcome State Fault Refusal) = .next t) : ExecEnds i s t := by
  obtain rfl := Host.Outcome.next.inj hnext
  exact .unfailed (unfailed_respond_ok s op p)

/-- CFGENC and INIT: the length check, then the one call. -/
theorem ExecEnds.of_configure {caller : ConfigCaller} {n : Byte} {p m d : Field} (hlen : lengthChecked i = some n)
    (hbus : usesBus i = true) (hop : i.op = caller.op) (hnext : s.whenIdle (configure caller n p m d s) = .next t) :
    ExecEnds i s t := by
  obtain ⟨-, rfl⟩ := whenIdle_next hnext
  match hcode : fqMap n.toNat with
  | none => exact .argumentError (.illegalLength hlen hcode)
  | some c =>
    rw [configure_of_code hcode]
    rcases configWrite_ends caller (packByte c p m d) s with h | h
    · exact .unfailed h
    · exact .failed hbus (.inl rfl) (hop ▸ h)

theorem ExecEnds.of_readTemperature {a : Byte} (hnext : s.whenIdle (readTemperature a s) = .next t) :
    ExecEnds (.rdtemp a true) s t := by
  obtain ⟨-, rfl⟩ := whenIdle_next hnext
  rcases readTemperature_ends a s with h | h | h
  · exact .unfailed h
  · exact .failed rfl (.inl rfl) h
  · exact .failed rfl (.inr ⟨a, rfl, rfl⟩) h

theorem execFqmap_ends {n : Byte} (hexec : exec (.fqmap n) s = .next t) : ExecEnds (.fqmap n) s t := by
  match hcode : fqMap n.toNat with
  | none => exact .argumentError (.illegalLength rfl hcode)
  | some c => rw [exec_fqmap_of_code hcode] at hexec; exact .of_respond_ok hexec

theorem exec_ends (i : Instr) (hexec : exec i s = .next t) : ExecEnds i s t := by
  cases i with
  | fqmap n => exact execFqmap_ends hexec
  | cpack c p m d => exact .of_respond_ok hexec
  | cunpack b => exact .of_respond_ok hexec
  | cfgenc a n p m d => exact .of_configure (caller := .cfgenc) rfl rfl rfl hexec
  | tasm b0 b1 => exact .of_respond_ok hexec
  | s11f v => exact .of_respond_ok hexec
  | tdec b0 b1 => exact .of_respond_ok hexec
  | init cfg =>
    cases cfg with
    | none => exact .argumentError .nullConfig
    | some c => exact .of_configure (caller := .init) rfl rfl rfl hexec
  | rdtemp a present =>
    cases present with
    | false => exact .argumentError (.nullDestination a)
    | true => exact .of_readTemperature hexec

/-! ## Each error from its cause, and each cause with its error (R100 to R103) -/

/-- An error comes from a check, and then no call was made, or from the call that failed last. -/
theorem error_cause {k : ErrorKind} (hexec : exec i s = .next t) (hresp : t.response = some ⟨op, .err k⟩) :
    op = i.op ∧ (ArgumentError i k ∧ t.bus = s.bus ∨
      ∃ e before failing, k = .busError e ∧ usesBus i = true ∧ CallsBeforeFailure i before ∧
        t.bus = s.bus ++ before ++ [failing] ∧ failing.failure = some e) := by
  cases exec_ends i hexec with
  | argumentError h =>
    obtain rfl := h.eq_respond hexec
    cases hresp
    exact ⟨rfl, .inl ⟨h, rfl⟩⟩
  | unfailed h => exact absurd hresp (h.response op k)
  | failed hbus hbefore h =>
    obtain ⟨failing, e, ht, hfail, herr⟩ := h
    cases hresp.symm.trans herr
    exact ⟨rfl, .inr ⟨e, _, failing, rfl, hbus, hbefore, ht, hfail⟩⟩

/-- A call that failed is the operation's last, and its error the result. -/
theorem response_of_failed_call {new : List BusEvent} {ev : BusEvent} {e : BusErrorInfo} (hexec : exec i s = .next t)
    (hnew : t.bus = s.bus ++ new) (hmem : ev ∈ new) (hfail : ev.failure = some e) :
    t.response = some ⟨i.op, .err (.busError e)⟩ := by
  cases exec_ends i hexec with
  | argumentError h =>
    obtain rfl := h.eq_respond hexec
    obtain rfl : new = [] := by simpa using hnew
    cases hmem
  | unfailed h =>
    obtain ⟨new', hnew', hok⟩ := h.events
    obtain rfl := List.append_cancel_left (hnew.symm.trans hnew')
    cases hfail.symm.trans (hok ev hmem)
  | @failed before _ hbefore h =>
    obtain ⟨failing, e', ht, hfail', herr⟩ := h
    obtain rfl : new = before ++ [failing] := List.append_cancel_left (hnew.symm.trans (ht.trans (List.append_assoc ..)))
    rcases List.mem_append.mp hmem with hmem | hmem
    · cases hfail.symm.trans (hbefore.failure_eq_none ev hmem)
    · obtain rfl := List.mem_singleton.mp hmem
      cases hfail.symm.trans hfail'
      exact herr

/-- Settles O34: an error's cause by its kind, and the check or the failed call that each cause is. -/
theorem errorsArisePreciselyAsTabled : Obligations.ErrorsArisePreciselyAsTabled := by
  refine ⟨fun i s t op k hexec hresp => ?_, fun i s t hexec => ⟨fun hnull => ?_, fun n hlen h1 h2 h4 h6 => ?_, ?_⟩⟩
  · obtain ⟨hop, ⟨harg, hbus⟩ | ⟨e, before, failing, rfl, huses, hbefore, hbus, hfail⟩⟩ := error_cause hexec hresp
    · refine ⟨hop, ?_, ?_, fun e he => absurd he (harg.ne_busError e)⟩
      · rintro rfl
        exact ⟨ArgumentError.nullArgument_iff.mp harg, hbus⟩
      · rintro rfl
        obtain ⟨n, hlen, hcode⟩ := ArgumentError.invalidArgument_iff.mp harg
        have hillegal := (fqMap_eq_none_iff _).mp hcode
        exact ⟨⟨n, hlen, by omega⟩, hbus⟩
    · refine ⟨hop, nofun, nofun, ?_⟩
      rintro _ ⟨⟩
      exact ⟨huses, before, failing, hbus, hfail, hbefore⟩
  · rw [(ArgumentError.nullArgument_iff.mpr hnull).eq_respond hexec, respond_response]
  · rw [(ArgumentError.illegalLength hlen (fqMap_toNat_eq_none h1 h2 h4 h6)).eq_respond hexec, respond_response]
  · exact fun _ _ _ => response_of_failed_call hexec

/-! ## What cannot fail (R104) -/

/-- The five conversions deliver a value in every state, with an operation in flight too. -/
theorem exists_exec_conversion_eq_respond_ok (s : State)
    (hop : i.op = .tdec ∨ i.op = .tasm ∨ i.op = .s11f ∨ i.op = .cpack ∨ i.op = .cunpack) :
    ∃ p : Payload, exec i s = .next (s.respond i.op (.ok p)) := by
  cases i with
  | cpack c p m d => exact ⟨_, rfl⟩
  | cunpack b => exact ⟨_, rfl⟩
  | tasm b0 b1 => exact ⟨_, rfl⟩
  | s11f v => exact ⟨_, rfl⟩
  | tdec b0 b1 => exact ⟨_, rfl⟩
  | fqmap n => simp [Instr.op] at hop
  | cfgenc a n p m d => simp [Instr.op] at hop
  | init cfg => simp [Instr.op] at hop
  | rdtemp a present => simp [Instr.op] at hop

theorem receiveTemperature_response_of_ok (a : Byte) {b0 b1 : Byte} {rest : List (Answer (Byte × Byte))}
    (hr : s.recvAnswers = .ok (b0, b1) :: rest) :
    (receiveTemperature a s).response = some ⟨.rdtemp, .ok (.temperature (decodeSample b0 b1))⟩ := by
  rw [receiveTemperature_ok a hr, respond_response]

/-- Once both calls have succeeded, decoding delivers a temperature for any two bytes. -/
theorem readTemperature_response_of_both_ok (a : Byte) {b0 b1 : Byte} {rest : List (Answer Unit)} {rest' : List (Answer (Byte × Byte))}
    (hs : s.sendAnswers = .ok () :: rest) (hr : s.recvAnswers = .ok (b0, b1) :: rest') :
    (readTemperature a s).response = some ⟨.rdtemp, .ok (.temperature (decodeSample b0 b1))⟩ := by
  rw [readTemperature_ok a hs]
  exact receiveTemperature_response_of_ok a hr

/-- Settles O35: the conversions respond with a value, and so does RDTEMP after two successful calls. -/
theorem pureConversionsRaiseNothing : Obligations.PureConversionsRaiseNothing :=
  ⟨fun _ s hop => exists_exec_conversion_eq_respond_ok s hop, fun a _ _ _ _ _ hidle hs hr =>
    ⟨_, _, exec_rdtemp_true_eq_readTemperature hidle a, readTemperature_response_of_both_ok a hs hr⟩⟩

/-! ## The order of the checks (R105) -/

/-- On a legal length the send's error is the contract's. -/
theorem configure_response_of_failed {n : Byte} {c : FqCode} {e : BusErrorInfo} {rest : List (Answer Unit)}
    (hcode : fqMap n.toNat = some c) (hs : s.sendAnswers = .busError e :: rest) (caller : ConfigCaller) (p m d : Field) :
    (configure caller n p m d s).response = some ⟨caller.op, .err (.busError e)⟩ := by
  rw [configure_of_code hcode, configWrite_failed _ _ hs, respond_response]

/-- Settles O36: a failed check ends the operation before the bus, and a failed send before the receive. -/
theorem firstFailingCheckWins : Obligations.FirstFailingCheckWins := by
  intro s e e' rest rest' hidle hs _
  refine ⟨exec_of_argumentError .nullConfig fun _ => hidle, fun a n p m d hcode => ⟨?_, ?_⟩,
    fun a n p m d c hcode => ⟨?_, ?_⟩, fun a => ⟨exec_of_argumentError (.nullDestination a) fun _ => hidle, ?_⟩⟩
  · exact exec_of_argumentError (.illegalLength rfl hcode) fun _ => hidle
  · exact exec_of_argumentError (.illegalLength rfl hcode) fun _ => hidle
  · exact ⟨_, exec_init_some_eq_configure hidle _, configure_response_of_failed hcode hs .init p m d⟩
  · exact ⟨_, exec_cfgenc_eq_configure hidle a n p m d, configure_response_of_failed hcode hs .cfgenc p m d⟩
  · refine ⟨_, exec_rdtemp_true_eq_readTemperature hidle a, ?_, ?_⟩
    · rw [readTemperature_failed a hs, respond_response]
    · rw [readTemperature_failed a hs, respond_recvAnswers, onSensor_recvAnswers]

end Sys2Proof.Machine
end

section
/-! PROOFS. The request image of 30_encoding.md section 7: the decoder answers an instruction on the image of that instruction and on
no other list of bytes, so it accepts exactly the well-formed images, and what it rejects it rejects by name. -/

namespace Sys2Proof

/-! ## One port at a time -/

theorem except_bind_eq_ok_iff {ε α β : Type} {x : Except ε α} {f : α → Except ε β} {b : β} :
    x >>= f = .ok b ↔ ∃ a, x = .ok a ∧ f a = .ok b := by
  cases x with
  | ok a => exact ⟨fun h => ⟨a, rfl, h⟩, fun ⟨_, ha, h⟩ => by cases ha; exact h⟩
  | error e => exact ⟨nofun, nofun⟩

/-- A byte that fits a narrower port is that port's value, widened. -/
theorem eq_setWidth_iff {w : Nat} (hw : w ≤ 8) (b : Byte) (x : BitVec w) :
    b = x.setWidth 8 ↔ b.toNat < 2 ^ w ∧ b.setWidth w = x := by
  have hx : x.toNat < 2 ^ 8 := x.isLt.trans_le (Nat.pow_le_pow_right (by decide) hw)
  constructor
  · rintro rfl
    exact ⟨Laws.Encodes.fits x hw, BitVec.setWidth_setWidth_of_le x hw |>.trans (BitVec.setWidth_eq x)⟩
  · rintro ⟨hb, rfl⟩
    exact BitVec.eq_of_toNat_eq (by simp [Nat.mod_eq_of_lt hb, Nat.mod_eq_of_lt b.isLt])

theorem decodeField_of_fits {b : Byte} (h : b.toNat < 2) : decodeField b = .ok (b.setWidth 1) := if_pos h

theorem decodeField_of_wide {b : Byte} (h : 2 ≤ b.toNat) : decodeField b = .error (.fieldNotBit b) := if_neg (Nat.not_lt.mpr h)

theorem decodeCode_of_fits {b : Byte} (h : b.toNat < 4) : decodeCode b = .ok (b.setWidth 2) := if_pos h

theorem decodeCode_of_wide {b : Byte} (h : 4 ≤ b.toNat) : decodeCode b = .error (.codeNotTwoBits b) := if_neg (Nat.not_lt.mpr h)

theorem decodeRaw11_of_wide {hi : Byte} (h : 8 ≤ hi.toNat) (lo : Byte) : decodeRaw11 hi lo = .error (.rawNotElevenBits hi) :=
  if_neg (Nat.not_lt.mpr h)

theorem decodePresence_of_wide {b : Byte} (h : 2 ≤ b.toNat) : decodePresence b = .error (.presenceNotBit b) := by
  have h0 : b ≠ 0 := by rintro rfl; exact absurd h (by decide)
  have h1 : b ≠ 1 := by rintro rfl; exact absurd h (by decide)
  rw [decodePresence, if_neg h0, if_neg h1]

@[simp] theorem decodeField_eq_ok_iff {b : Byte} {x : Field} : decodeField b = .ok x ↔ b = x.setWidth 8 := by
  rw [eq_setWidth_iff (by decide), decodeField]
  split_ifs with h <;> simp [h]

@[simp] theorem decodeCode_eq_ok_iff {b : Byte} {c : FqCode} : decodeCode b = .ok c ↔ b = c.setWidth 8 := by
  rw [eq_setWidth_iff (by decide), decodeCode]
  split_ifs with h <;> simp [h]

/-- The two bytes of a raw field are its three high bits and its low byte. -/
theorem append_eq_iff_slices {hi : BitVec 3} {lo : Byte} {v : Raw11} : hi ++ lo = v ↔ hi = v.extractLsb' 8 3 ∧ lo = v.extractLsb' 0 8 := by
  constructor
  · rintro rfl
    exact ⟨BitVec.extractLsb'_append_eq_left.symm, BitVec.extractLsb'_append_eq_right.symm⟩
  · rintro ⟨rfl, rfl⟩
    exact BitVec.extractLsb'_append_extractLsb' (w := 3) (len := 8)

@[simp] theorem decodeRaw11_eq_ok_iff {hi lo : Byte} {v : Raw11} :
    decodeRaw11 hi lo = .ok v ↔ hi = (v.extractLsb' 8 3).setWidth 8 ∧ lo = v.extractLsb' 0 8 := by
  rw [eq_setWidth_iff (by decide), decodeRaw11, and_assoc, ← append_eq_iff_slices]
  split_ifs with h <;> simp [h]

@[simp] theorem decodePresence_eq_ok_iff {b : Byte} {present : Bool} : decodePresence b = .ok present ↔ b = encodePresence present := by
  rw [decodePresence]
  cases present with
  | false =>
    rw [show encodePresence false = 0 from rfl]
    split_ifs <;> simp_all
  | true =>
    rw [show encodePresence true = 1 from rfl]
    split_ifs <;> simp_all

/-! ## The ports of a group -/

theorem decodeConfig_eq_ok_iff {op : Op} {ps : List Byte} {c : DeviceConfig} : decodeConfig op ps = .ok c ↔ ps = encodeConfig c := by
  constructor
  · intro h
    unfold decodeConfig at h
    split at h
    · simp only [except_bind_eq_ok_iff, decodeField_eq_ok_iff] at h
      obtain ⟨p, rfl, m, rfl, d, rfl, h⟩ := h
      cases h
      rfl
    · cases h
  · rintro rfl
    simp only [encodeConfig, decodeConfig, except_bind_eq_ok_iff, decodeField_eq_ok_iff]
    exact ⟨_, rfl, _, rfl, _, rfl, rfl⟩

/-- INIT's image is the presence bit, and the record after it exactly when the bit is 1 (R61). -/
theorem eq_encodePorts_of_decodeInit {ps : List Byte} {i : Instr} (h : decodeInit ps = .ok i) :
    ∃ cfg, i = .init cfg ∧ ps = encodePorts (.init cfg) := by
  match ps, h with
  | pres :: rest, h =>
    simp only [decodeInit, except_bind_eq_ok_iff, decodePresence_eq_ok_iff] at h
    obtain ⟨present, rfl, h⟩ := h
    cases present with
    | true =>
      simp only [if_true, except_bind_eq_ok_iff, decodeConfig_eq_ok_iff] at h
      obtain ⟨c, rfl, h⟩ := h
      cases h
      exact ⟨some c, rfl, rfl⟩
    | false =>
      match rest, h with
      | [], h => cases h; exact ⟨none, rfl, rfl⟩

theorem decodeInit_encodePorts : ∀ cfg, decodeInit (encodePorts (.init cfg)) = .ok (.init cfg)
  | none => rfl
  | some c => by
    simp only [encodePorts, decodeInit, except_bind_eq_ok_iff, decodePresence_eq_ok_iff]
    refine ⟨true, rfl, ?_⟩
    simp only [if_true, except_bind_eq_ok_iff, decodeConfig_eq_ok_iff]
    exact ⟨c, rfl, rfl⟩

theorem decodePorts_encodePorts (i : Instr) : decodePorts i.op (encodePorts i) = .ok i := by
  cases i with
  | fqmap n => rfl
  | cpack c p m d =>
    simp only [Instr.op, encodePorts, decodePorts, except_bind_eq_ok_iff, decodeCode_eq_ok_iff, decodeField_eq_ok_iff]
    exact ⟨c, rfl, p, rfl, m, rfl, d, rfl, rfl⟩
  | cunpack b => rfl
  | cfgenc a n p m d =>
    simp only [Instr.op, encodePorts, decodePorts, except_bind_eq_ok_iff, decodeConfig_eq_ok_iff]
    exact ⟨_, rfl, rfl⟩
  | tasm b0 b1 => rfl
  | s11f v =>
    simp only [Instr.op, encodePorts, decodePorts, except_bind_eq_ok_iff, decodeRaw11_eq_ok_iff]
    exact ⟨v, ⟨rfl, rfl⟩, rfl⟩
  | tdec b0 b1 => rfl
  | init cfg => exact decodeInit_encodePorts cfg
  | rdtemp a present =>
    simp only [Instr.op, encodePorts, decodePorts, except_bind_eq_ok_iff, decodePresence_eq_ok_iff]
    exact ⟨present, rfl, rfl⟩

theorem eq_encodePorts_of_decodePorts {op : Op} {ps : List Byte} {i : Instr} (h : decodePorts op ps = .ok i) :
    i.op = op ∧ ps = encodePorts i := by
  cases op with
  | fqmap => match ps, h with | [n], h => cases h; exact ⟨rfl, rfl⟩
  | cpack =>
    match ps, h with
    | [c, p, m, d], h =>
      simp only [decodePorts, except_bind_eq_ok_iff, decodeCode_eq_ok_iff, decodeField_eq_ok_iff] at h
      obtain ⟨c, rfl, p, rfl, m, rfl, d, rfl, h⟩ := h
      cases h
      exact ⟨rfl, rfl⟩
  | cunpack => match ps, h with | [b], h => cases h; exact ⟨rfl, rfl⟩
  | cfgenc =>
    simp only [decodePorts, except_bind_eq_ok_iff, decodeConfig_eq_ok_iff] at h
    obtain ⟨c, rfl, h⟩ := h
    cases h
    exact ⟨rfl, rfl⟩
  | tasm => match ps, h with | [b0, b1], h => cases h; exact ⟨rfl, rfl⟩
  | s11f =>
    match ps, h with
    | [hi, lo], h =>
      simp only [decodePorts, except_bind_eq_ok_iff, decodeRaw11_eq_ok_iff] at h
      obtain ⟨v, ⟨rfl, rfl⟩, h⟩ := h
      cases h
      exact ⟨rfl, rfl⟩
  | tdec => match ps, h with | [b0, b1], h => cases h; exact ⟨rfl, rfl⟩
  | init =>
    obtain ⟨cfg, rfl, rfl⟩ := eq_encodePorts_of_decodeInit h
    exact ⟨rfl, rfl⟩
  | rdtemp =>
    match ps, h with
    | [a, dst], h =>
      simp only [decodePorts, except_bind_eq_ok_iff, decodePresence_eq_ok_iff] at h
      obtain ⟨present, rfl, h⟩ := h
      cases h
      exact ⟨rfl, rfl⟩

/-! ## The group number -/

@[simp] theorem ofNumber_number (op : Op) : Op.ofNumber op.number = some op := by
  cases op <;> rfl

theorem ofNumber_eq_some_iff {g : Byte} {op : Op} : Op.ofNumber g = some op ↔ g = op.number := by
  constructor
  · intro h
    have hlt : op.number.toNat < Op.all.length := by cases op <;> decide
    have hat : Op.all[op.number.toNat]? = Op.all[g.toNat]? := (ofNumber_number op).trans h.symm
    exact BitVec.eq_of_toNat_eq ((List.getElem?_inj hlt (by decide)).mp hat).symm
  · rintro rfl
    exact ofNumber_number op

theorem decode_number_cons (op : Op) (ps : List Byte) : decode (op.number :: ps) = decodePorts op ps := by
  simp [decode]

/-- The decoder answers `i` exactly on the image of `i`. -/
theorem decode_eq_ok_iff {bs : List Byte} {i : Instr} : decode bs = .ok i ↔ bs = encode i := by
  constructor
  · intro h
    unfold decode at h
    split at h
    · cases h
    · split at h
      · cases h
      · obtain rfl := ofNumber_eq_some_iff.mp ‹_›
        obtain ⟨rfl, rfl⟩ := eq_encodePorts_of_decodePorts h
        rfl
  · rintro rfl
    exact (decode_number_cons _ _).trans (decodePorts_encodePorts i)

/-- Settles O1: the image of an instruction is one of the lists that decode to it. -/
theorem decodeOfEncodeIsTheInstruction : Obligations.DecodeOfEncodeIsTheInstruction := fun _ => decode_eq_ok_iff.mpr rfl

/-- Settles O2: the image of an instruction is the only list that decodes to it. -/
theorem encodeOfDecodeIsTheImage : Obligations.EncodeOfDecodeIsTheImage := fun _ _ h => (decode_eq_ok_iff.mp h).symm

/-! ## The well-formed images -/

theorem imageWellFormed_encode (i : Instr) : imageWellFormed (encode i) = true := by
  cases i with
  | fqmap n => exact Laws.Encodes.fqmap n
  | cpack c p m d => exact Laws.Encodes.cpack c p m d
  | cunpack b => exact Laws.Encodes.cunpack b
  | cfgenc a n p m d => exact Laws.Encodes.cfgenc a n p m d
  | tasm b0 b1 => exact Laws.Encodes.tasm b0 b1
  | s11f v => exact Laws.Encodes.s11f v
  | tdec b0 b1 => exact Laws.Encodes.tdec b0 b1
  | init cfg => exact Laws.Encodes.init cfg
  | rdtemp a present => exact Laws.Encodes.rdtemp a present

theorem portsFit_nil_iff {ps : List Byte} : portsFit [] ps = true ↔ ps = [] := by
  cases ps <;> simp [portsFit]

/-- The first port's value is a word of its width. -/
theorem portsFit_cons_iff {w : Nat} (hw : w ≤ 8) {ws : List Nat} {ps : List Byte} :
    portsFit (w :: ws) ps = true ↔ ∃ (x : BitVec w) (rest : List Byte), ps = x.setWidth 8 :: rest ∧ portsFit ws rest = true := by
  cases ps with
  | nil => simp [portsFit]
  | cons b rest =>
    simp only [portsFit, Bool.and_eq_true, decide_eq_true_eq, List.cons.injEq, eq_setWidth_iff hw]
    constructor
    · rintro ⟨hb, hrest⟩
      exact ⟨_, rest, ⟨⟨hb, rfl⟩, rfl⟩, hrest⟩
    · rintro ⟨_, _, ⟨⟨hb, -⟩, rfl⟩, hrest⟩
      exact ⟨hb, hrest⟩

theorem exists_encodeConfig_of_portsFit {ps : List Byte} (h : portsFit DeviceConfig.portWidths ps = true) : ∃ c, ps = encodeConfig c := by
  simp only [DeviceConfig.portWidths, portsFit_cons_iff, portsFit_nil_iff, Nat.reduceLeDiff] at h
  obtain ⟨a, _, rfl, n, _, rfl, p, _, rfl, m, _, rfl, d, _, rfl, rfl⟩ := h
  exact ⟨⟨a, n, p, m, d⟩, by simp [encodeConfig]⟩

/-- Port values that fit are those of an instruction of the group. -/
theorem exists_encodePorts_of_portsWellFormed {op : Op} {ps : List Byte} (h : op.portsWellFormed ps = true) :
    ∃ i : Instr, i.op = op ∧ ps = encodePorts i := by
  cases op with
  | fqmap =>
    simp only [Op.portsWellFormed, portsFit_cons_iff, portsFit_nil_iff, Nat.reduceLeDiff] at h
    obtain ⟨n, _, rfl, rfl⟩ := h
    exact ⟨.fqmap n, rfl, by simp [encodePorts]⟩
  | cpack =>
    simp only [Op.portsWellFormed, portsFit_cons_iff, portsFit_nil_iff, Nat.reduceLeDiff] at h
    obtain ⟨c, _, rfl, p, _, rfl, m, _, rfl, d, _, rfl, rfl⟩ := h
    exact ⟨.cpack c p m d, rfl, rfl⟩
  | cunpack =>
    simp only [Op.portsWellFormed, portsFit_cons_iff, portsFit_nil_iff, Nat.reduceLeDiff] at h
    obtain ⟨b, _, rfl, rfl⟩ := h
    exact ⟨.cunpack b, rfl, by simp [encodePorts]⟩
  | cfgenc =>
    obtain ⟨c, rfl⟩ := exists_encodeConfig_of_portsFit h
    exact ⟨.cfgenc c.devAddr c.fqSize c.osPol c.osMode c.devMode, rfl, rfl⟩
  | tasm =>
    simp only [Op.portsWellFormed, portsFit_cons_iff, portsFit_nil_iff, Nat.reduceLeDiff] at h
    obtain ⟨b0, _, rfl, b1, _, rfl, rfl⟩ := h
    exact ⟨.tasm b0 b1, rfl, by simp [encodePorts]⟩
  | s11f =>
    simp only [Op.portsWellFormed, portsFit_cons_iff, portsFit_nil_iff, Nat.reduceLeDiff] at h
    obtain ⟨hi, _, rfl, lo, _, rfl, rfl⟩ := h
    obtain ⟨hhi, hlo⟩ := append_eq_iff_slices.mp (Eq.refl (hi ++ lo))
    exact ⟨.s11f (hi ++ lo), rfl, by rw [encodePorts, ← hhi, ← hlo, BitVec.setWidth_eq]⟩
  | tdec =>
    simp only [Op.portsWellFormed, portsFit_cons_iff, portsFit_nil_iff, Nat.reduceLeDiff] at h
    obtain ⟨b0, _, rfl, b1, _, rfl, rfl⟩ := h
    exact ⟨.tdec b0 b1, rfl, by simp [encodePorts]⟩
  | init =>
    simp only [Op.portsWellFormed, Bool.or_eq_true, Bool.and_eq_true, decide_eq_true_eq, portsFit_cons_iff, Nat.reduceLeDiff] at h
    rcases h with rfl | ⟨⟨x, rest, rfl, hrest⟩, hhead⟩
    · exact ⟨.init none, rfl, rfl⟩
    · obtain ⟨c, rfl⟩ := exists_encodeConfig_of_portsFit hrest
      exact ⟨.init (some c), rfl, congrArg (· :: encodeConfig c) (Option.some.inj hhead)⟩
  | rdtemp =>
    simp only [Op.portsWellFormed, portsFit_cons_iff, portsFit_nil_iff, Nat.reduceLeDiff] at h
    obtain ⟨a, _, rfl, x, _, rfl, rfl⟩ := h
    have hx : x.setWidth 8 = encodePresence (decide (x = 1)) := by revert x; decide
    exact ⟨.rdtemp a (decide (x = 1)), rfl, by rw [encodePorts, hx, BitVec.setWidth_eq]⟩

theorem imageWellFormed_iff {bs : List Byte} : imageWellFormed bs = true ↔ ∃ i, bs = encode i := by
  constructor
  · intro h
    match bs, h with
    | g :: ps, h =>
      rw [imageWellFormed] at h
      split at h
      · cases h
      · obtain rfl := ofNumber_eq_some_iff.mp ‹_›
        obtain ⟨i, rfl, rfl⟩ := exists_encodePorts_of_portsWellFormed h
        exact ⟨i, rfl⟩
  · rintro ⟨i, rfl⟩
    exact imageWellFormed_encode i

/-- Settles O3: both sides say that the list is the image of an instruction. -/
theorem decodeAcceptsExactlyWellFormedImages : Obligations.DecodeAcceptsExactlyWellFormedImages := by
  intro bs
  simp only [decode_eq_ok_iff, imageWellFormed_iff]

/-- Settles O4: each written-out list is the image of its instruction. -/
theorem decodeReadsTheSpecsPortValues : Obligations.DecodeReadsTheSpecsPortValues := by
  simp only [Obligations.DecodeReadsTheSpecsPortValues, decode_eq_ok_iff]
  decide

/-! ## The images that are rejected (R34, R71, D7) -/

/-- TASM and TDEC take exactly two bytes. -/
theorem decode_sample_of_length_ne {ps : List Byte} (h : ps.length ≠ 2) :
    decode (Op.tasm.number :: ps) = .error (.sampleNotTwoBytes .tasm) ∧
    decode (Op.tdec.number :: ps) = .error (.sampleNotTwoBytes .tdec) := by
  rw [decode_number_cons, decode_number_cons]
  match ps, h with
  | [], _ => exact ⟨rfl, rfl⟩
  | [_], _ => exact ⟨rfl, rfl⟩
  | [_, _], h => exact absurd rfl h
  | _ :: _ :: _ :: _, _ => exact ⟨rfl, rfl⟩

section
variable {p m d : Byte}

/-! A record with a port value that is no bit is rejected for the first such value. -/

theorem decodeConfig_of_wide_osPol (op : Op) (a n : Byte) (hp : 2 ≤ p.toNat) :
    decodeConfig op [a, n, p, m, d] = .error (.fieldNotBit p) := by
  rw [decodeConfig, decodeField_of_wide hp]; rfl

theorem decodeConfig_of_wide_osMode (op : Op) (a n : Byte) (hp : p.toNat < 2) (hm : 2 ≤ m.toNat) :
    decodeConfig op [a, n, p, m, d] = .error (.fieldNotBit m) := by
  rw [decodeConfig, decodeField_of_fits hp, decodeField_of_wide hm]; rfl

theorem decodeConfig_of_wide_devMode (op : Op) (a n : Byte) (hp : p.toNat < 2) (hm : m.toNat < 2) (hd : 2 ≤ d.toNat) :
    decodeConfig op [a, n, p, m, d] = .error (.fieldNotBit d) := by
  rw [decodeConfig, decodeField_of_fits hp, decodeField_of_fits hm, decodeField_of_wide hd]; rfl

/-- The same holds of CPACK's four ports, the code first. -/
theorem decodePorts_cpack_of_wide (c : Byte) :
    (4 ≤ c.toNat → decodePorts .cpack [c, p, m, d] = .error (.codeNotTwoBits c)) ∧
    (c.toNat < 4 → 2 ≤ p.toNat → decodePorts .cpack [c, p, m, d] = .error (.fieldNotBit p)) ∧
    (c.toNat < 4 → p.toNat < 2 → 2 ≤ m.toNat → decodePorts .cpack [c, p, m, d] = .error (.fieldNotBit m)) ∧
    (c.toNat < 4 → p.toNat < 2 → m.toNat < 2 → 2 ≤ d.toNat → decodePorts .cpack [c, p, m, d] = .error (.fieldNotBit d)) := by
  rw [decodePorts]
  refine ⟨fun hc => ?_, fun hc hp => ?_, fun hc hp hm => ?_, fun hc hp hm hd => ?_⟩
  · rw [decodeCode_of_wide hc]; rfl
  · rw [decodeCode_of_fits hc, decodeField_of_wide hp]; rfl
  · rw [decodeCode_of_fits hc, decodeField_of_fits hp, decodeField_of_wide hm]; rfl
  · rw [decodeCode_of_fits hc, decodeField_of_fits hp, decodeField_of_fits hm, decodeField_of_wide hd]; rfl

end

/-- CFGENC's image and INIT's are rejected when their record is. -/
theorem decode_config_of_error {head ps : List Byte} {why : DecodeError} (hhead : head = [Op.cfgenc.number] ∨ head = [Op.init.number, 1])
    (h : ∀ op, decodeConfig op ps = .error why) : decode (head ++ ps) = .error why := by
  rcases hhead with rfl | rfl
  · refine (decode_number_cons .cfgenc ps).trans ?_
    rw [decodePorts, h]
    rfl
  · refine (decode_number_cons .init (1 :: ps)).trans ?_
    have hpresent : decodePresence 1 = .ok true := rfl
    rw [decodePorts, decodeInit, hpresent]
    simp only [bind, Except.bind, if_true, h]

/-- Settles O5: the port that is decoded first among the wide ones gives the error its name. -/
theorem malformedPortValuesAreRejectedByName : Obligations.MalformedPortValuesAreRejectedByName := by
  refine ⟨fun _ => decode_sample_of_length_ne, fun c p m d => decode_number_cons .cpack _ ▸ decodePorts_cpack_of_wide c,
    fun a n p m d head hhead => ⟨fun hp => ?_, fun hp hm => ?_, fun hp hm hd => ?_⟩, fun hi lo h => ?_,
    fun b h => ⟨fun ps => ?_, fun a => ?_⟩⟩
  · exact decode_config_of_error hhead fun op => decodeConfig_of_wide_osPol op a n hp
  · exact decode_config_of_error hhead fun op => decodeConfig_of_wide_osMode op a n hp hm
  · exact decode_config_of_error hhead fun op => decodeConfig_of_wide_devMode op a n hp hm hd
  · rw [decode_number_cons, decodePorts, decodeRaw11_of_wide h]; rfl
  · rw [decode_number_cons, decodePorts, decodeInit, decodePresence_of_wide h]; rfl
  · rw [decode_number_cons, decodePorts, decodePresence_of_wide h]; rfl

end Sys2Proof
end

section
/-! PROOFS. CUNPACK as the inverse of CPACK (40_config_encoder.md section 1, D11), and the data words of the table: the fixed bits of
their patterns (R51, R54, R56), and the request that a word reads as (log 19). -/

namespace Sys2Proof.Machine

/-! ## CUNPACK -/

theorem and_0x1F_toNat (b : Byte) : (b &&& 0x1F).toNat = b.toNat % 0x20 := by
  rw [BitVec.toNat_and]
  exact Nat.and_two_pow_sub_one_eq_mod b.toNat 5

/-- The four slices that CUNPACK reads lie in bits 4:0. -/
theorem unpackByte_and_0x1F (b : Byte) : unpackByte (b &&& 0x1F) = unpackByte b := by
  have hcode : (b &&& 0x1F).extractLsb' 3 2 = b.extractLsb' 3 2 := by
    rw [extractLsb'_eq_iff, and_0x1F_toNat, BitVec.extractLsb'_toNat, Nat.shiftRight_eq_div_pow]; omega
  have hbit {k : Nat} (hk : k < 5) : (b &&& 0x1F).extractLsb' k 1 = b.extractLsb' k 1 := by
    rw [extractLsb'_eq_iff, and_0x1F_toNat, BitVec.extractLsb'_toNat, Nat.shiftRight_eq_div_pow]
    interval_cases k <;> omega
  rw [unpackByte, unpackByte, hcode, hbit (by decide), hbit (by decide), hbit (by decide)]

theorem packByte_unpackByte (b : Byte) :
    packByte (unpackByte b).fqCode (unpackByte b).osPol (unpackByte b).osMode (unpackByte b).devMode = b &&& 0x1F :=
  BitVec.eq_of_toNat_eq ((packByte_extractLsb'_toNat b).trans (and_0x1F_toNat b).symm)

theorem unpackByte_packByte (c : FqCode) (p m d : Field) : unpackByte (packByte c p m d) = ⟨c, fqSizeOf c, p, m, d⟩ := by
  obtain ⟨-, hc, hp, hm, hd⟩ := packByte_slices c p m d
  rw [unpackByte, hc, hp, hm, hd]

/-- Settles O16: the fields are slices of bits 4:0, which packing puts together again. -/
theorem cunpackInvertsCpack : Obligations.CunpackInvertsCpack := by
  refine ⟨fun b s => ⟨unpackByte b, rfl, ?_, ?_⟩, unpackByte_packByte⟩
  · simp [unpackByte, Nat.shiftRight_eq_div_pow]
  · have hsize : (unpackByte b).fqSize = fqSizeOf (unpackByte b).fqCode := rfl
    refine ⟨fun h => hsize.trans (by rw [h]; rfl), fun h => hsize.trans (by rw [h]; rfl), fun h => hsize.trans (by rw [h]; rfl),
      fun h => hsize.trans (by rw [h]; rfl), ?_, ?_, ?_, unpackByte_and_0x1F b, packByte_unpackByte b⟩
    all_goals simp [unpackByte, Nat.shiftRight_eq_div_pow]

/-! ## The patterns of the data words (R51, R54, R56) -/

theorem packByte_reservedBits : ∀ (c : FqCode) (p m d : Field), packByte c p m d &&& 0xE0 = 0x00 := by decide

/-- The frame of a configuration write, which a legal length forms (R56). -/
theorem configWord_pattern {n : Byte} {p m d : Field} {ws : List Byte}
    (h : (fqMap n.toNat).map (fun c => configFrame (packByte c p m d)) = some ws) : ∃ b : Byte, ws = [0x01, b] ∧ b &&& 0xE0 = 0x00 := by
  obtain ⟨c, -, rfl⟩ := Option.map_eq_some_iff.mp h
  exact ⟨_, rfl, packByte_reservedBits c p m d⟩

theorem codeWord_pattern {n : Byte} {ws : List Byte} (h : (fqMap n.toNat).map (fun c => [c.setWidth 8]) = some ws) :
    ∃ b : Byte, ws = [b] ∧ b.toNat < 4 := by
  obtain ⟨c, -, rfl⟩ := Option.map_eq_some_iff.mp h
  exact ⟨_, rfl, Laws.Encodes.fits c (by decide)⟩

/-- The two bytes of a raw field are its number in base 256. -/
theorem raw11_toNat_eq_bytes (v : Raw11) : v.toNat = 256 * ((v.extractLsb' 8 3).setWidth 8 : Byte).toNat + (v.extractLsb' 0 8).toNat := by
  have := v.isLt
  simp only [BitVec.toNat_setWidth, BitVec.extractLsb'_toNat, Nat.shiftRight_eq_div_pow]
  omega

/-- Settles O7: the words are codes, packed bytes and slices, whose bits above are zero. -/
theorem dataWordsFitTheTablePatterns : Obligations.DataWordsFitTheTablePatterns :=
  ⟨fun _ _ => codeWord_pattern, fun c p m d => ⟨_, rfl, packByte_reservedBits c p m d⟩, fun _ _ _ _ _ _ => configWord_pattern,
    fun _ _ => configWord_pattern, fun v => ⟨_, _, rfl, raw11_toNat_eq_bytes v⟩, fun _ => rfl⟩

/-! ## The request of a table word (log 19) -/

theorem decodeTableWord_of_tableImage {nbits w : Nat} {i : Instr} (h : tableImage nbits w = encode i) : decodeTableWord nbits w = some i := by
  rw [decodeTableWord, h, decode_eq_ok_iff.mpr rfl]
  rfl

theorem wordBytes_one (b : Byte) : wordBytes 1 b.toNat = [b] := by
  simp [wordBytes]

theorem wordBytes_two (b0 b1 : Byte) : wordBytes 2 (256 * b0.toNat + b1.toNat) = [b0, b1] := by
  have h0 := b0.isLt
  have h1 := b1.isLt
  have hhigh : BitVec.ofNat 8 ((256 * b0.toNat + b1.toNat) >>> 8) = b0 :=
    BitVec.eq_of_toNat_eq (by rw [BitVec.toNat_ofNat, Nat.shiftRight_eq_div_pow]; omega)
  have hlow : BitVec.ofNat 8 (256 * b0.toNat + b1.toNat) = b1 :=
    BitVec.eq_of_toNat_eq (by rw [BitVec.toNat_ofNat]; omega)
  simp [wordBytes, hhigh, hlow]

theorem tableImage_8 (b : Byte) : tableImage 8 b.toNat = if b.toNat < 32 then packImage b else encode (.cunpack b) := by
  simp only [tableImage, Nat.reduceAdd, Nat.reduceDiv, wordBytes_one]

theorem tableImage_16 (b0 b1 : Byte) : tableImage 16 (256 * b0.toNat + b1.toNat) =
    if b0 = Config.confPtr ∧ b1.toNat < 32 then configImage b1
    else if b0.toNat < 8 then Op.s11f.number :: [b0, b1]
    else Op.tdec.number :: [b0, b1] := by
  simp only [tableImage, Nat.reduceAdd, Nat.reduceDiv, wordBytes_two]

theorem tableImage_24 {w : Nat} (hw : w < 2 ^ 16) : tableImage 24 w = encode (.rdtemp 0 true) := by
  have hfirst : BitVec.ofNat 8 (w >>> 16) = Config.tempPtr := by rw [Nat.shiftRight_eq_div_pow, Nat.div_eq_of_lt hw]; rfl
  simp [tableImage, wordBytes, hfirst]

theorem packImage_packByte (c : FqCode) (p m d : Field) : packImage (packByte c p m d) = encode (.cpack c p m d) := by
  simp only [packImage, unpackByte_packByte]

theorem configImage_packByte (c : FqCode) (p m d : Field) : configImage (packByte c p m d) = encode (.cfgenc 0 (fqSizeOf c) p m d) := by
  simp only [configImage, unpackByte_packByte]

/-- Settles O6: each word's image is the image of its request. -/
theorem tableWordsReadAsTheirRequest : Obligations.TableWordsReadAsTheirRequest := by
  refine ⟨fun c p m d => ?_, fun c p m d => ?_, fun w hw => ?_, fun b hb => ?_, fun b0 b1 hb => ?_⟩
  · have hb := packByte_toNat_le c p m d
    exact decodeTableWord_of_tableImage (by rw [tableImage_8, if_pos (by omega), packImage_packByte])
  · have hb := packByte_toNat_le c p m d
    refine decodeTableWord_of_tableImage ((tableImage_16 Config.confPtr _).trans ?_)
    rw [if_pos ⟨rfl, by omega⟩, configImage_packByte]
  · exact decodeTableWord_of_tableImage (tableImage_24 hw)
  · exact decodeTableWord_of_tableImage (by rw [tableImage_8, if_neg (by omega)])
  · have hne : b0 ≠ Config.confPtr := by rintro rfl; exact absurd hb (by decide)
    refine decodeTableWord_of_tableImage ?_
    rw [tableImage_16, if_neg fun h => hne h.1, if_neg (by omega)]
    rfl

end Sys2Proof.Machine
end

section
/-! PROOFS. What the operations leave as it was (10_state.md section 1, 20_memory.md section 5), and what a step does with a request
and with an operation in flight. The frame is proved for each transport primitive, then for each sequence, then for `exec`. -/

namespace Sys2Proof.Machine

variable {s t u : State} {i : Instr} {a : Byte} {m n : Nat}

/-! ## The frame of bus calls at one address -/

/-- From `s` to `t` at most `n` calls at the address `a` returned: no request is taken, no other sensor reached, answers are used from the
front, and events appended. -/
structure CallsAt (a : Byte) (n : Nat) (s t : State) : Prop where
  others : KeepsOthers s t a
  sendAnswers : ∃ k, t.sendAnswers = s.sendAnswers.drop k
  recvAnswers : ∃ k, t.recvAnswers = s.recvAnswers.drop k
  events : ∃ new, t.bus = s.bus ++ new ∧ new.length ≤ n

theorem CallsAt.trans (hsu : CallsAt a m s u) (hut : CallsAt a n u t) : CallsAt a (m + n) s t := by
  obtain ⟨⟨hreq, hsens⟩, ⟨k, hsend⟩, ⟨l, hrecv⟩, new, hbus, hlen⟩ := hsu
  obtain ⟨⟨hreq', hsens'⟩, ⟨k', hsend'⟩, ⟨l', hrecv'⟩, new', hbus', hlen'⟩ := hut
  refine ⟨⟨hreq'.trans hreq, fun x hx => (hsens' x hx).trans (hsens x hx)⟩, ⟨k + k', ?_⟩, ⟨l + l', ?_⟩, new ++ new', ?_, ?_⟩
  · rw [hsend', hsend, List.drop_drop]
  · rw [hrecv', hrecv, List.drop_drop]
  · rw [hbus', hbus, List.append_assoc]
  · rw [List.length_append]
    exact Nat.add_le_add hlen hlen'

theorem CallsAt.mono (h : CallsAt a m s t) (hmn : m ≤ n) : CallsAt a n s t :=
  { h with events := h.events.imp fun _ hnew => ⟨hnew.1, hnew.2.trans hmn⟩ }

/-- A change of only the response, or of the operation in flight, is no call. -/
theorem CallsAt.of_eq (hreq : t.requests = s.requests) (hsens : t.sensors = s.sensors) (hsend : t.sendAnswers = s.sendAnswers)
    (hrecv : t.recvAnswers = s.recvAnswers) (hbus : t.bus = s.bus) : CallsAt a 0 s t :=
  ⟨⟨hreq, fun x _ => sensor_congr s x hsens⟩, ⟨0, hsend⟩, ⟨0, hrecv⟩, [], by simp [hbus], Nat.le_refl 0⟩

theorem callsAt_respond (s : State) (op : Op) (r : Result) : CallsAt a 0 s (s.respond op r) := .of_eq rfl rfl rfl rfl rfl
theorem callsAt_await (s : State) (p : InFlight) : CallsAt a 0 s (s.await p) := .of_eq rfl rfl rfl rfl rfl

theorem callsAt_onSensor (s : State) (f : Nat → Sensor → Sensor) : CallsAt a 0 s (s.onSensor a f) :=
  ⟨⟨rfl, fun x hx => onSensor_sensor_other s a x f hx⟩, ⟨0, rfl⟩, ⟨0, rfl⟩, [], by simp, Nat.le_refl 0⟩

/-- A call that returned takes an answer, and is one event. -/
theorem callsAt_sendReturned {ans : Answer Unit} {rest : List (Answer Unit)} (hs : s.sendAnswers = ans :: rest) (ev : BusEvent) :
    CallsAt a 1 s { s with sendAnswers := rest, bus := s.bus ++ [ev] } :=
  ⟨⟨rfl, fun _ _ => rfl⟩, ⟨1, by rw [hs]; rfl⟩, ⟨0, rfl⟩, [ev], rfl, Nat.le_refl 1⟩

theorem callsAt_recvReturned {ans : Answer (Byte × Byte)} {rest : List (Answer (Byte × Byte))} (hr : s.recvAnswers = ans :: rest)
    (ev : BusEvent) : CallsAt a 1 s { s with recvAnswers := rest, bus := s.bus ++ [ev] } :=
  ⟨⟨rfl, fun _ _ => rfl⟩, ⟨0, rfl⟩, ⟨1, by rw [hr]; rfl⟩, [ev], rfl, Nat.le_refl 1⟩

theorem busSend_callsAt (a : Byte) (bytes : List Byte) (s : State) : CallsAt a 1 s (busSend a bytes s).2 := by
  match hs : s.sendAnswers with
  | [] => rw [busSend_unanswered _ _ hs]; exact (callsAt_onSensor s _).mono (by decide)
  | .ok () :: rest => rw [busSend_ok _ _ hs]; exact (callsAt_sendReturned hs _).trans (callsAt_onSensor _ _)
  | .busError e :: rest => rw [busSend_failed _ _ hs]; exact (callsAt_sendReturned hs _).trans (callsAt_onSensor _ _)

theorem busRecv_callsAt (a : Byte) (s : State) : CallsAt a 1 s (busRecv a s).2 := by
  match hr : s.recvAnswers with
  | [] => rw [busRecv_unanswered _ hr]; exact (callsAt_onSensor s _).mono (by decide)
  | .ok bs :: rest => rw [busRecv_ok _ hr]; exact (callsAt_recvReturned hr _).trans (callsAt_onSensor _ _)
  | .busError e :: rest => rw [busRecv_failed _ hr]; exact (callsAt_recvReturned hr _).trans (callsAt_onSensor _ _)

/-! ## The sequences -/

theorem configWrite_callsAt (caller : ConfigCaller) (b : Byte) (s : State) : CallsAt Config.cfgDevAddr 1 s (configWrite caller b s) := by
  have hcall := busSend_callsAt Config.cfgDevAddr (configFrame b) s
  rw [configWrite]
  match busSend Config.cfgDevAddr (configFrame b) s, hcall with
  | (none, u), hcall => exact hcall.trans (callsAt_await u _)
  | (some (.ok ()), u), hcall => exact hcall.trans (callsAt_respond u _ _)
  | (some (.busError e), u), hcall => exact hcall.trans (callsAt_respond u _ _)

theorem configure_callsAt (caller : ConfigCaller) (k : Byte) (p m d : Field) (s : State) :
    CallsAt Config.cfgDevAddr 1 s (configure caller k p m d s) := by
  match hcode : fqMap k.toNat with
  | none => rw [configure_of_no_code hcode]; exact (callsAt_respond s _ _).mono (by decide)
  | some c => rw [configure_of_code hcode]; exact configWrite_callsAt caller _ s

theorem receiveTemperature_callsAt (a : Byte) (s : State) : CallsAt a 1 s (receiveTemperature a s) := by
  have hcall := busRecv_callsAt a s
  rw [receiveTemperature]
  match busRecv a s, hcall with
  | (none, u), hcall => exact hcall.trans (callsAt_await u _)
  | (some (.ok (b0, b1)), u), hcall => exact hcall.trans (callsAt_respond u _ _)
  | (some (.busError e), u), hcall => exact hcall.trans (callsAt_respond u _ _)

theorem readTemperature_callsAt (a : Byte) (s : State) : CallsAt a 2 s (readTemperature a s) := by
  have hcall := busSend_callsAt a pointerFrame s
  rw [readTemperature]
  match busSend a pointerFrame s, hcall with
  | (none, u), hcall => exact (hcall.trans (callsAt_await u _)).mono (by decide)
  | (some (.ok ()), u), hcall => exact hcall.trans (receiveTemperature_callsAt a u)
  | (some (.busError e), u), hcall => exact (hcall.trans (callsAt_respond u _ _)).mono (by decide)

theorem resume_requests (p : InFlight) (s : State) : (resume p s).requests = s.requests := by
  cases p with
  | configWrite caller b => exact (configWrite_callsAt caller b s.leaveFlight).others.1
  | tempPointer a => exact (readTemperature_callsAt a s.leaveFlight).others.1
  | tempReceive a => exact (receiveTemperature_callsAt a s.leaveFlight).others.1

/-! ## What an instruction runs -/

/-- The kind of value that each operation delivers (R61, D22). -/
inductive Delivers : Op → Payload → Prop where
  | fqmap (c : FqCode) : Delivers .fqmap (.fqCode c)
  | cpack (b : Byte) : Delivers .cpack (.cfgByte b)
  | cunpack (f : ConfigFields) : Delivers .cunpack (.fields f)
  | cfgenc (b : Byte) : Delivers .cfgenc (.cfgByte b)
  | tasm (v : Raw11) : Delivers .tasm (.raw11 v)
  | s11f (x : Temperature) : Delivers .s11f (.temperature x)
  | tdec (x : Temperature) : Delivers .tdec (.temperature x)
  | init : Delivers .init .unit
  | rdtemp (x : Temperature) : Delivers .rdtemp (.temperature x)

/-- A result that `op` may have: a value of its kind, or an error when it has a port to report it on. -/
def Result.Fits (op : Op) : Result → Prop
  | .ok p => Delivers op p
  | .err _ => hasStatusPort op = true

/-- An instruction only delivers a result, or runs the encoder's contract, or is RDTEMP with a destination. -/
inductive ExecForm (i : Instr) : Prop where
  | responds (r : Result) (hfits : r.Fits i.op) (htarget : target i = none)
      (hexec : ∀ s, (usesBus i = true → s.inFlight = none) → exec i s = .next (s.respond i.op r))
  | configures (caller : ConfigCaller) (n : Byte) (p m d : Field) (hmax : maxCalls i = 1) (hop : i.op = caller.op)
      (htarget : target i = some Config.cfgDevAddr) (hexec : ∀ s, exec i s = s.whenIdle (configure caller n p m d s))
  | reads (a : Byte) (hi : i = .rdtemp a true)

theorem execForm_fqmap (n : Byte) : ExecForm (.fqmap n) := by
  match hcode : fqMap n.toNat with
  | some c => exact .responds (.ok (.fqCode c)) (.fqmap c) rfl fun s _ => exec_fqmap_of_code hcode s
  | none => exact .responds (.err .invalidArgument) rfl rfl fun s _ => exec_fqmap_of_no_code hcode s

theorem execForm (i : Instr) : ExecForm i := by
  cases i with
  | fqmap n => exact execForm_fqmap n
  | cpack c p m d => exact .responds (.ok (.cfgByte _)) (.cpack _) rfl fun _ _ => rfl
  | cunpack b => exact .responds (.ok (.fields _)) (.cunpack _) rfl fun _ _ => rfl
  | cfgenc a n p m d => exact .configures .cfgenc n p m d rfl rfl rfl fun _ => rfl
  | tasm b0 b1 => exact .responds (.ok (.raw11 _)) (.tasm _) rfl fun _ _ => rfl
  | s11f v => exact .responds (.ok (.temperature _)) (.s11f _) rfl fun _ _ => rfl
  | tdec b0 b1 => exact .responds (.ok (.temperature _)) (.tdec _) rfl fun _ _ => rfl
  | init cfg =>
    cases cfg with
    | none => exact .responds (.err .nullArgument) rfl rfl fun _ => exec_of_argumentError .nullConfig
    | some c => exact .configures .init c.fqSize c.osPol c.osMode c.devMode rfl rfl rfl fun _ => rfl
  | rdtemp a present =>
    cases present with
    | false => exact .responds (.err .nullArgument) rfl rfl fun _ => exec_of_argumentError (.nullDestination a)
    | true => exact .reads a rfl

/-- The state that an instruction answers, by its form. -/
inductive ExecRuns (i : Instr) (s t : State) : Prop where
  | responds (r : Result) (hfits : r.Fits i.op) (htarget : target i = none) (ht : t = s.respond i.op r)
  | configures (caller : ConfigCaller) (n : Byte) (p m d : Field) (hmax : maxCalls i = 1) (hop : i.op = caller.op)
      (htarget : target i = some Config.cfgDevAddr) (hidle : s.inFlight = none) (ht : t = configure caller n p m d s)
  | reads (a : Byte) (hi : i = .rdtemp a true) (hidle : s.inFlight = none) (ht : t = readTemperature a s)

theorem exec_runs (hexec : exec i s = .next t) : ExecRuns i s t := by
  cases execForm i with
  | responds r hfits htarget hform =>
    exact .responds r hfits htarget
      (Host.Outcome.next.inj (hexec.symm.trans (hform s (inFlight_eq_none_of_exec_eq_next hexec))))
  | configures caller n p m d hmax hop htarget hform =>
    obtain ⟨hidle, ht⟩ := whenIdle_next ((hform s).symm.trans hexec)
    exact .configures caller n p m d hmax hop htarget hidle ht
  | reads a hi =>
    subst hi
    obtain ⟨hidle, ht⟩ := whenIdle_next hexec
    exact .reads a rfl hidle ht

/-! ## The frame of the instructions -/

/-- An operation that reaches no sensor makes no call: it only delivers a result. -/
theorem exists_eq_respond_of_no_target (htarget : target i = none) (hexec : exec i s = .next t) : ∃ r, t = s.respond i.op r := by
  cases exec_runs hexec with
  | responds r _ _ ht => exact ⟨r, ht⟩
  | configures _ _ _ _ _ _ _ hsome => cases htarget.symm.trans hsome
  | reads a hi => subst hi; cases htarget

/-- An operation that reaches a sensor makes its calls there, at most as many as R123 says. -/
theorem exec_callsAt_target (htarget : target i = some a) (hexec : exec i s = .next t) : CallsAt a (maxCalls i) s t := by
  cases exec_runs hexec with
  | responds _ _ hnone => cases htarget.symm.trans hnone
  | configures caller n p m d hmax _ hsome _ ht =>
    obtain rfl := Option.some.inj (htarget.symm.trans hsome)
    rw [ht, hmax]
    exact configure_callsAt caller n p m d s
  | reads x hi _ ht =>
    subst hi
    cases htarget
    rw [ht]
    exact readTemperature_callsAt a s

/-- Settles O44: an operation with no target only responds, and the calls of the others are at their target. -/
theorem frameOfEveryOperation : Obligations.FrameOfEveryOperation := by
  intro i s t hexec
  match htarget : target i with
  | none =>
    obtain ⟨r, rfl⟩ := exists_eq_respond_of_no_target htarget hexec
    exact ⟨rfl, fun _ _ => rfl, fun _ => rfl, ⟨0, rfl⟩, ⟨0, rfl⟩, [], by simp, Nat.zero_le _⟩
  | some a =>
    obtain ⟨⟨hreq, hsens⟩, hsend, hrecv, hevents⟩ := exec_callsAt_target htarget hexec
    exact ⟨hreq, fun x hx => hsens x fun hxa => hx (congrArg some hxa.symm), nofun, hsend, hrecv, hevents⟩

theorem exec_requests (hexec : exec i s = .next t) : t.requests = s.requests := (frameOfEveryOperation i s t hexec).1

/-! ## Which outcomes an instruction has -/

theorem exists_exec_eq_next (i : Instr) (hidle : s.inFlight = none) : ∃ t, exec i s = .next t := by
  cases execForm i with
  | responds r _ _ hexec => exact ⟨_, hexec s fun _ => hidle⟩
  | configures caller n p m d _ _ _ hexec => exact ⟨_, (hexec s).trans (whenIdle_none _ hidle)⟩
  | reads a hi => subst hi; exact ⟨_, exec_rdtemp_true_eq_readTemperature hidle a⟩

theorem exec_usesBus_of_inFlight {p : InFlight} (hflight : s.inFlight = some p) (hbus : usesBus i = true) :
    exec i s = .refused .operationInFlight := by
  cases i with
  | cfgenc a n p m d => exact whenIdle_some _ hflight
  | init cfg => cases cfg <;> exact whenIdle_some _ hflight
  | rdtemp a present => cases present <;> exact whenIdle_some _ hflight
  | fqmap n => cases hbus
  | cpack c p m d => cases hbus
  | cunpack b => cases hbus
  | tasm b0 b1 => cases hbus
  | s11f v => cases hbus
  | tdec b0 b1 => cases hbus

/-- Settles O46: the guard of the three bus operations is the only way to a refusal. -/
theorem execStopsOnlyOnASecondBusOperation : Obligations.ExecStopsOnlyOnASecondBusOperation := by
  refine ⟨fun i s => exists_exec_eq_next i, fun i s p hflight => ⟨exec_usesBus_of_inFlight hflight, fun hpure => ?_⟩⟩
  obtain ⟨r, hr⟩ := exists_exec_eq_respond hpure
  exact ⟨_, hr s⟩

/-! ## With an answer to each call an operation ends (R123) -/

theorem exists_receiveTemperature_response_eq (a : Byte) (hr : s.recvAnswers ≠ []) :
    ∃ r, (receiveTemperature a s).response = some ⟨.rdtemp, r⟩ := by
  match hans : s.recvAnswers, hr with
  | .ok (b0, b1) :: rest, _ => exact ⟨_, by rw [receiveTemperature_ok a hans, respond_response]⟩
  | .busError e :: rest, _ => exact ⟨_, by rw [receiveTemperature_failed a hans, respond_response]⟩

theorem exists_readTemperature_response_eq (a : Byte) (hs : s.sendAnswers ≠ []) (hr : s.recvAnswers ≠ []) :
    ∃ r, (readTemperature a s).response = some ⟨.rdtemp, r⟩ := by
  match hans : s.sendAnswers, hs with
  | .ok () :: rest, _ =>
    rw [readTemperature_ok a hans]
    exact exists_receiveTemperature_response_eq a hr
  | .busError e :: rest, _ => exact ⟨_, by rw [readTemperature_failed a hans, respond_response]⟩

theorem exec_response_ne_none (hs : s.sendAnswers ≠ []) (hr : s.recvAnswers ≠ []) (hexec : exec i s = .next t) : t.response ≠ none := by
  cases exec_runs hexec with
  | responds r _ _ ht => rw [ht, respond_response]; nofun
  | configures caller n p m d _ _ _ _ ht =>
    obtain ⟨ans, rest, hans⟩ := List.exists_cons_of_ne_nil hs
    obtain ⟨r, hresp⟩ := exists_configure_response_eq caller n p m d ans
    rw [ht, hresp s rest hans]
    nofun
  | reads a _ _ ht =>
    obtain ⟨r, hresp⟩ := exists_readTemperature_response_eq a hs hr
    rw [ht, hresp]
    nofun

/-- An operation that has a response is over. -/
theorem inFlight_eq_none_of_response (hidle : s.inFlight = none) (hexec : exec i s = .next t) (hresp : t.response ≠ none) :
    t.inFlight = none := by
  obtain ⟨u, _, hu, _, hrun⟩ := exec_alike i ⟨hidle, hidle, rfl, rfl⟩
  obtain rfl := Host.Outcome.next.inj (hexec.symm.trans hu)
  exact hrun.ended hresp

/-- Settles O45: the operation runs, has a response, and so is over; the bound is its frame's. -/
theorem operationsReturnWhenTheBusAnswers : Obligations.OperationsReturnWhenTheBusAnswers := by
  intro i s hidle hs hr
  obtain ⟨t, hexec⟩ := exists_exec_eq_next i hidle
  obtain ⟨-, -, -, -, -, new, hbus, hlen⟩ := frameOfEveryOperation i s t hexec
  have hresp := exec_response_ne_none hs hr hexec
  exact ⟨t, new, hexec, hresp, inFlight_eq_none_of_response hidle hexec hresp, hbus, hlen⟩

/-- Settles O37: an error is a response, so the operation is over; the two argument errors come from a check, which only responds. -/
theorem errorsLeaveTheBlockAsBefore : Obligations.ErrorsLeaveTheBlockAsBefore := by
  intro i s t op k hidle hexec hresp
  refine ⟨inFlight_eq_none_of_response hidle hexec (by simp [hresp]), exec_requests hexec, fun hk => ?_⟩
  obtain ⟨rfl, ⟨harg, -⟩ | ⟨e, _, _, rfl, _⟩⟩ := error_cause hexec hresp
  · exact harg.eq_respond hexec
  · simp at hk

end Sys2Proof.Machine
end

section
/-! PROOFS. The rules of the step (20_memory.md sections 2 and 5): what it does with a request and with an operation in flight, the
invariant of the bus shapes (R33), and that it depends on nothing but the block's inputs (10_state.md section 1). -/

namespace Sys2Proof.Machine

variable {s t s₁ s₂ : State} {i : Instr} {image : List Byte} {rest : List (List Byte)}

/-! ## The cases of the step -/

theorem step_of_inFlight {p : InFlight} (h : s.inFlight = some p) : step s = .next (resume p s) := by
  rw [step, h]

theorem step_of_no_request (hidle : s.inFlight = none) (hreq : s.requests = []) : step s = .next s.idle := by
  simp [step, hidle, State.fetch, hreq]

theorem step_of_decode_ok (hidle : s.inFlight = none) (hreq : s.requests = image :: rest) (hdec : decode image = .ok i) :
    step s = exec i { s with requests := rest } := by
  simp [step, hidle, State.fetch, hreq, hdec, State.takeRequest]

theorem step_of_decode_error {why : DecodeError} (hidle : s.inFlight = none) (hreq : s.requests = image :: rest)
    (hdec : decode image = .error why) : step s = .refused (.malformedRequest why) := by
  simp [step, hidle, State.fetch, hreq, hdec]

/-- A step that answers a next state goes on with the operation in flight, is idle, or runs the first request. -/
inductive StepRuns (s t : State) : Prop where
  | resumes (p : InFlight) (hflight : s.inFlight = some p) (ht : t = resume p s)
  | idles (hidle : s.inFlight = none) (ht : t = s.idle)
  | executes (i : Instr) (rest : List (List Byte)) (hidle : s.inFlight = none) (hexec : exec i { s with requests := rest } = .next t)

theorem step_runs (hstep : step s = .next t) : StepRuns s t := by
  match hflight : s.inFlight with
  | some p => exact .resumes p hflight (Host.Outcome.next.inj (hstep.symm.trans (step_of_inFlight hflight)))
  | none =>
    match hreq : s.requests with
    | [] => exact .idles hflight (Host.Outcome.next.inj (hstep.symm.trans (step_of_no_request hflight hreq)))
    | image :: rest =>
      match hdec : decode image with
      | .ok i => exact .executes i rest hflight ((step_of_decode_ok hflight hreq hdec).symm.trans hstep)
      | .error why => cases hstep.symm.trans (step_of_decode_error hflight hreq hdec)

/-- Settles O8: it is a case of the step. -/
theorem stepRunsTheDecodedRequest : Obligations.StepRunsTheDecodedRequest := fun _ _ _ _ => step_of_decode_ok

/-- Settles O9: it is a case of the step. -/
theorem stepRefusesAMalformedRequest : Obligations.StepRefusesAMalformedRequest := fun _ _ _ _ => step_of_decode_error

/-- Settles O10: it is a case of the step. -/
theorem stepWithoutRequestIsIdle : Obligations.StepWithoutRequestIsIdle := fun _ => step_of_no_request

/-- Settles O11: the operation in flight goes on, and its frame holds the requests. -/
theorem noRequestIsTakenWhileInFlight : Obligations.NoRequestIsTakenWhileInFlight := fun s p hflight =>
  ⟨resume p s, step_of_inFlight hflight, resume_requests p s⟩

theorem decode_tableImage_of_decodeTableWord {nbits w : Nat} (h : decodeTableWord nbits w = some i) : decode (tableImage nbits w) = .ok i := by
  rw [decodeTableWord] at h
  match hdec : decode (tableImage nbits w), h with
  | .ok j, h => cases h; rfl
  | .error why, h => cases h

/-- Settles O12: the placed image is the first request, and with it taken the queue is the old one. -/
theorem stepRunsThePlacedWord : Obligations.StepRunsThePlacedWord := fun s nbits w _ h =>
  step_of_decode_ok (s := s.withFetchWord nbits w) rfl rfl (decode_tableImage_of_decodeTableWord h)

/-! ## The invariant of the bus shapes (R33) -/

/-- All bus calls have one of the three shapes. -/
def BusShaped (s : State) : Prop := ∀ e ∈ s.bus, e.Shaped

theorem BusShaped.append {ev : BusEvent} (hbus : BusShaped s) (hev : ev.Shaped) (h : t.bus = s.bus ++ [ev]) : BusShaped t := by
  intro e he
  rw [h] at he
  rcases List.mem_append.mp he with he | he
  · exact hbus e he
  · exact List.mem_singleton.mp he ▸ hev

theorem inv_of_idle (hbus : BusShaped s) (hidle : s.inFlight = none) : s.Inv :=
  ⟨hbus, fun p hp => by cases hidle.symm.trans hp⟩

theorem inv_await (hbus : BusShaped s) {p : InFlight} (hp : p.Shaped) : (s.await p).Inv :=
  ⟨hbus, fun q hq => by cases hq; exact ⟨hp, rfl⟩⟩

theorem configWrite_inv (hbus : BusShaped s) (hidle : s.inFlight = none) (caller : ConfigCaller) {b : Byte} (hb : b.toNat < 32) :
    (configWrite caller b s).Inv := by
  have hshaped (ans : Answer Unit) : (BusEvent.send Config.cfgDevAddr (configFrame b) ans).Shaped := .inl ⟨rfl, b, rfl, hb⟩
  match hs : s.sendAnswers with
  | [] => rw [configWrite_unanswered _ _ hs]; exact inv_await hbus hb
  | .ok () :: rest => rw [configWrite_ok _ _ hs]; exact inv_of_idle (hbus.append (hshaped _) rfl) hidle
  | .busError e :: rest => rw [configWrite_failed _ _ hs]; exact inv_of_idle (hbus.append (hshaped _) rfl) hidle

/-- A byte that the block packs has bits 7:5 zero (R51). -/
theorem configure_inv (hbus : BusShaped s) (hidle : s.inFlight = none) (caller : ConfigCaller) (n : Byte) (p m d : Field) :
    (configure caller n p m d s).Inv := by
  match hcode : fqMap n.toNat with
  | none => rw [configure_of_no_code hcode]; exact inv_of_idle hbus hidle
  | some c =>
    rw [configure_of_code hcode]
    exact configWrite_inv hbus hidle caller (Nat.lt_succ_of_le (packByte_toNat_le c p m d))

theorem receiveTemperature_inv (hbus : BusShaped s) (hidle : s.inFlight = none) (a : Byte) : (receiveTemperature a s).Inv := by
  have hshaped (ans : Answer (Byte × Byte)) : (BusEvent.recv a Config.rawLen ans).Shaped := rfl
  match hr : s.recvAnswers with
  | [] => rw [receiveTemperature_unanswered _ hr]; exact inv_await hbus trivial
  | .ok (b0, b1) :: rest => rw [receiveTemperature_ok _ hr]; exact inv_of_idle (hbus.append (hshaped _) rfl) hidle
  | .busError e :: rest => rw [receiveTemperature_failed _ hr]; exact inv_of_idle (hbus.append (hshaped _) rfl) hidle

theorem readTemperature_inv (hbus : BusShaped s) (hidle : s.inFlight = none) (a : Byte) : (readTemperature a s).Inv := by
  have hshaped (ans : Answer Unit) : (BusEvent.send a pointerFrame ans).Shaped := .inr rfl
  match hs : s.sendAnswers with
  | [] => rw [readTemperature_unanswered _ hs]; exact inv_await hbus trivial
  | .ok () :: rest =>
    rw [readTemperature_ok _ hs]
    refine receiveTemperature_inv ?_ ?_ a
    · exact hbus.append (hshaped _) rfl
    · exact hidle
  | .busError e :: rest => rw [readTemperature_failed _ hs]; exact inv_of_idle (hbus.append (hshaped _) rfl) hidle

theorem resume_inv (hbus : BusShaped s) {p : InFlight} (hp : p.Shaped) : (resume p s).Inv := by
  cases p with
  | configWrite caller b => exact configWrite_inv (s := s.leaveFlight) hbus rfl caller hp
  | tempPointer a => exact readTemperature_inv (s := s.leaveFlight) hbus rfl a
  | tempReceive a => exact receiveTemperature_inv (s := s.leaveFlight) hbus rfl a

theorem exec_inv (hbus : BusShaped s) (hidle : s.inFlight = none) (hexec : exec i s = .next t) : t.Inv := by
  cases exec_runs hexec with
  | responds r _ _ ht => rw [ht]; exact inv_of_idle hbus hidle
  | configures caller n p m d _ _ _ _ ht => rw [ht]; exact configure_inv hbus hidle caller n p m d
  | reads a _ _ ht => rw [ht]; exact readTemperature_inv hbus hidle a

/-- Settles O38, by the cases of the step. -/
theorem stepKeepsTheBusShapes : Obligations.StepKeepsTheBusShapes := by
  rintro s t ⟨hbus, hflight⟩ hstep
  cases step_runs hstep with
  | resumes p hp ht => rw [ht]; exact resume_inv hbus (hflight p hp).1
  | idles hidle ht => rw [ht]; exact inv_of_idle hbus hidle
  | executes i rest hidle hexec => exact exec_inv (s := { s with requests := rest }) hbus hidle hexec

/-- Settles O39: at reset nothing is in flight and no call has returned. -/
theorem resetMeetsTheBusShapes : Obligations.ResetMeetsTheBusShapes := inv_of_idle (fun _ he => nomatch he) rfl

/-- Settles O40: field by field. -/
theorem resetLeavesSensorsUnspecified : Obligations.ResetLeavesSensorsUnspecified :=
  ⟨rfl, rfl, rfl, rfl, rfl, rfl, rfl, reset_sensor⟩

/-! ## The inputs of the step (10_state.md section 1) -/

/-- Both states step to next states that agree again and show the same, or both are refused for the same reason. -/
inductive StepAlike (s₁ s₂ : State) : Prop where
  | next (t₁ t₂ : State) (hstep₁ : step s₁ = .next t₁) (hstep₂ : step s₂ = .next t₂) (hsame : SameToTheBlock t₁ t₂)
      (hresp : t₂.response = t₁.response) (hevents : EventsAlike s₁ s₂ t₁ t₂)
  | refused (r : Refusal) (hstep₁ : step s₁ = .refused r) (hstep₂ : step s₂ = .refused r)

/-- Runs that are alike, with the queue alike before and left as it was, are steps alike. -/
theorem StepAlike.of_run {t₁ t₂ : State} (hstep₁ : step s₁ = .next t₁) (hstep₂ : step s₂ = .next t₂) (hrun : RunAlike s₁ s₂ t₁ t₂)
    (hreq : t₂.requests = t₁.requests) : StepAlike s₁ s₂ :=
  .next t₁ t₂ hstep₁ hstep₂ ⟨hreq, hrun.inFlight, hrun.sendAnswers, hrun.recvAnswers⟩ hrun.response hrun.events

theorem resume_alike (hsame : SameToTheBlock s₁ s₂) (p : InFlight) : RunAlike s₁ s₂ (resume p s₁) (resume p s₂) := by
  obtain ⟨-, -, hsend, hrecv⟩ := hsame
  have hidle : IdleAlike s₁.leaveFlight s₂.leaveFlight := ⟨rfl, rfl, hsend, hrecv⟩
  have hleave : EventsAlike s₁ s₂ s₁.leaveFlight s₂.leaveFlight := EventsAlike.refl s₁ s₂
  cases p with
  | configWrite caller b => exact (configWrite_alike hidle caller b).of_events hleave
  | tempPointer a => exact (readTemperature_alike hidle a).of_events hleave
  | tempReceive a => exact (receiveTemperature_alike hidle a).of_events hleave

theorem step_alike (hsame : SameToTheBlock s₁ s₂) : StepAlike s₁ s₂ := by
  obtain ⟨hreq, hflight, hsend, hrecv⟩ := hsame
  match hp : s₁.inFlight with
  | some p =>
    refine .of_run (step_of_inFlight hp) (step_of_inFlight (hflight.trans hp)) (resume_alike ⟨hreq, hflight, hsend, hrecv⟩ p) ?_
    rw [resume_requests, resume_requests, hreq]
  | none =>
    match hqueue : s₁.requests with
    | [] =>
      exact .next _ _ (step_of_no_request hp hqueue) (step_of_no_request (hflight.trans hp) (hreq.trans hqueue))
        ⟨hreq, hflight, hsend, hrecv⟩ rfl (EventsAlike.refl s₁ s₂)
    | image :: rest =>
      match hdec : decode image with
      | .error why =>
        exact .refused _ (step_of_decode_error hp hqueue hdec) (step_of_decode_error (hflight.trans hp) (hreq.trans hqueue) hdec)
      | .ok i =>
        have hidle : IdleAlike { s₁ with requests := rest } { s₂ with requests := rest } := ⟨hp, hflight.trans hp, hsend, hrecv⟩
        obtain ⟨t₁, t₂, ht₁, ht₂, hrun⟩ := exec_alike i hidle
        refine .of_run ((step_of_decode_ok hp hqueue hdec).trans ht₁)
          ((step_of_decode_ok (hflight.trans hp) (hreq.trans hqueue) hdec).trans ht₂) (hrun.of_events (EventsAlike.refl s₁ s₂)) ?_
        rw [exec_requests ht₁, exec_requests ht₂]

/-- Settles O41: two states that agree step alike. -/
theorem stepIgnoresSensorsAndHistory : Obligations.StepIgnoresSensorsAndHistory := by
  intro s₁ s₂ hsame
  cases step_alike hsame with
  | next u₁ u₂ hstep₁ hstep₂ hsame' hresp hevents =>
    refine ⟨fun t₁ ht₁ => ?_, fun r hr => (by cases hr.symm.trans hstep₁)⟩
    obtain rfl := Host.Outcome.next.inj (hstep₁.symm.trans ht₁)
    obtain ⟨new, hbus₁, hbus₂⟩ := hevents
    exact ⟨u₂, new, hstep₂, hsame', hresp, hbus₁, hbus₂⟩
  | refused r hstep₁ hstep₂ =>
    refine ⟨fun t₁ ht₁ => (by cases ht₁.symm.trans hstep₁), fun r' hr' => ?_⟩
    obtain rfl := Host.Outcome.refused.inj (hstep₁.symm.trans hr')
    exact hstep₂

end Sys2Proof.Machine
end

section
/-! PROOFS. The outcomes of the three bus operations (40_config_encoder.md section 1, 42_driver_sequences.md section 1): with each call
answered or not, at once or to the operation in flight. Each sequence's outcomes are stated once, and used from `exec` and from `step`. -/

namespace Sys2Proof.Machine

variable {s t u : State} {a b : Byte} {caller : ConfigCaller}

/-! ## Calls that returned -/

/-- From `s` to `t` exactly these calls returned, at the address `a`, and these answers are left. -/
structure Exchange (a : Byte) (events : List BusEvent) (sends : List (Answer Unit)) (recvs : List (Answer (Byte × Byte)))
    (s t : State) : Prop where
  bus : t.bus = s.bus ++ events
  sendAnswers : t.sendAnswers = sends
  recvAnswers : t.recvAnswers = recvs
  others : KeepsOthers s t a

theorem Exchange.trans {events events' : List BusEvent} {sends sends' : List (Answer Unit)} {recvs recvs' : List (Answer (Byte × Byte))}
    (hsu : Exchange a events sends recvs s u) (hut : Exchange a events' sends' recvs' u t) :
    Exchange a (events ++ events') sends' recvs' s t := by
  obtain ⟨hreq, hsens⟩ := hsu.others
  obtain ⟨hreq', hsens'⟩ := hut.others
  exact ⟨by rw [hut.bus, hsu.bus, List.append_assoc], hut.sendAnswers, hut.recvAnswers, hreq'.trans hreq,
    fun x hx => (hsens' x hx).trans (hsens x hx)⟩

/-! ## The configuration write (R73) -/

section
variable {ans : Answer Unit} {e : BusErrorInfo} {rest : List (Answer Unit)}

theorem configWrite_exchange (hs : s.sendAnswers = ans :: rest) :
    Exchange Config.cfgDevAddr [.send Config.cfgDevAddr [0x01, b] ans] rest s.recvAnswers s (configWrite caller b s) := by
  have hothers := (configWrite_callsAt caller b s).others
  match ans, hs with
  | .ok (), hs => rw [configWrite_ok _ _ hs] at hothers ⊢; exact ⟨rfl, rfl, rfl, hothers⟩
  | .busError e, hs => rw [configWrite_failed _ _ hs] at hothers ⊢; exact ⟨rfl, rfl, rfl, hothers⟩

theorem configWrite_inFlight (hidle : s.inFlight = none) (hs : s.sendAnswers = ans :: rest) : (configWrite caller b s).inFlight = none := by
  match ans, hs with
  | .ok (), hs => rw [configWrite_ok _ _ hs]; exact hidle
  | .busError e, hs => rw [configWrite_failed _ _ hs]; exact hidle

theorem configWrite_response_of_ok (hs : s.sendAnswers = .ok () :: rest) :
    (configWrite caller b s).response = some ⟨caller.op, .ok (caller.payload b)⟩ := by
  rw [configWrite_ok _ _ hs, respond_response]

theorem configWrite_response_of_failed (hs : s.sendAnswers = .busError e :: rest) :
    (configWrite caller b s).response = some ⟨caller.op, .err (.busError e)⟩ := by
  rw [configWrite_failed _ _ hs, respond_response]

/-- The sensor after the write: the byte, the pointer of the frame, and the old thresholds (R16, R73). -/
structure ConfigWritten (b : Byte) (old new : Sensor) : Prop where
  conf : new.conf = b
  ptr : new.ptr = 0x01
  hyst : new.hyst = old.hyst
  overtemp : new.overtemp = old.overtemp

theorem configWrite_sensor_of_ok (hs : s.sendAnswers = .ok () :: rest) :
    ConfigWritten b (s.sensor Config.cfgDevAddr) ((configWrite caller b s).sensor Config.cfgDevAddr) := by
  rw [configWrite_ok _ _ hs, respond_sensor, onSensor_sensor_same, afterSend_configFrame]
  exact ⟨rfl, rfl, rfl, rfl⟩

/-- What CFGENC and INIT do on a legal length when their send succeeds (R73, R90). -/
theorem configure_outcome_of_ok {n : Byte} {c : FqCode} (hidle : s.inFlight = none) (hcode : fqMap n.toNat = some c)
    (hs : s.sendAnswers = .ok () :: rest) (caller : ConfigCaller) (p m d : Field) :
    (configure caller n p m d s).response = some ⟨caller.op, .ok (caller.payload (packByte c p m d))⟩ ∧
    (configure caller n p m d s).bus = s.bus ++ [.send Config.cfgDevAddr [0x01, packByte c p m d] (.ok ())] ∧
    (configure caller n p m d s).inFlight = none ∧ (configure caller n p m d s).sendAnswers = rest ∧
    (configure caller n p m d s).recvAnswers = s.recvAnswers ∧
    ((configure caller n p m d s).sensor Config.cfgDevAddr).conf = packByte c p m d ∧
    ((configure caller n p m d s).sensor Config.cfgDevAddr).ptr = 0x01 ∧
    ((configure caller n p m d s).sensor Config.cfgDevAddr).hyst = (s.sensor Config.cfgDevAddr).hyst ∧
    ((configure caller n p m d s).sensor Config.cfgDevAddr).overtemp = (s.sensor Config.cfgDevAddr).overtemp ∧
    KeepsOthers s (configure caller n p m d s) Config.cfgDevAddr := by
  rw [configure_of_code hcode]
  obtain ⟨hbus, hsend, hrecv, hothers⟩ := configWrite_exchange (caller := caller) (b := packByte c p m d) hs
  obtain ⟨hconf, hptr, hhyst, hover⟩ := configWrite_sensor_of_ok (caller := caller) (b := packByte c p m d) hs
  exact ⟨configWrite_response_of_ok hs, hbus, configWrite_inFlight hidle hs, hsend, hrecv, hconf, hptr, hhyst, hover, hothers⟩

/-- What they do when it fails (R41). -/
theorem configure_outcome_of_failed {n : Byte} {c : FqCode} (hidle : s.inFlight = none) (hcode : fqMap n.toNat = some c)
    (hs : s.sendAnswers = .busError e :: rest) (caller : ConfigCaller) (p m d : Field) :
    (configure caller n p m d s).response = some ⟨caller.op, .err (.busError e)⟩ ∧
    (configure caller n p m d s).bus = s.bus ++ [.send Config.cfgDevAddr [0x01, packByte c p m d] (.busError e)] ∧
    (configure caller n p m d s).inFlight = none ∧ (configure caller n p m d s).sendAnswers = rest ∧
    (configure caller n p m d s).recvAnswers = s.recvAnswers ∧
    KeepsOthers s (configure caller n p m d s) Config.cfgDevAddr := by
  rw [configure_of_code hcode]
  obtain ⟨hbus, hsend, hrecv, hothers⟩ := configWrite_exchange (caller := caller) (b := packByte c p m d) hs
  exact ⟨configWrite_response_of_failed hs, hbus, configWrite_inFlight hidle hs, hsend, hrecv, hothers⟩

end

/-- Settles O17: an illegal length only responds, and a legal one has the outcome of its send. -/
theorem cfgencValidatesPacksAndWrites : Obligations.CfgencValidatesPacksAndWrites := fun a n p m d _ hidle =>
  ⟨fun hcode => exec_cfgenc_of_no_code hcode a p m d hidle,
    fun _ _ hcode hs => ⟨_, exec_cfgenc_eq_configure hidle a n p m d, configure_outcome_of_ok hidle hcode hs .cfgenc p m d⟩,
    fun _ _ _ hcode hs => ⟨_, exec_cfgenc_eq_configure hidle a n p m d, configure_outcome_of_failed hidle hcode hs .cfgenc p m d⟩⟩

/-- Settles O27: the two checks only respond, and a legal record has the outcome of its send. -/
theorem initConfiguresTheSensor : Obligations.InitConfiguresTheSensor := fun _ hidle =>
  ⟨exec_of_argumentError .nullConfig fun _ => hidle,
    fun _ hcode => exec_of_argumentError (.illegalLength rfl hcode) fun _ => hidle,
    fun c _ _ hcode hs => ⟨_, exec_init_some_eq_configure hidle c, configure_outcome_of_ok hidle hcode hs .init _ _ _⟩,
    fun c _ _ _ hcode hs => ⟨_, exec_init_some_eq_configure hidle c, configure_outcome_of_failed hidle hcode hs .init _ _ _⟩⟩

/-! ## RDTEMP (R91) -/

section
variable {sent : Answer Unit} {ans : Answer (Byte × Byte)} {e : BusErrorInfo} {rest : List (Answer Unit)}
  {rest' : List (Answer (Byte × Byte))}

/-- The state in which RDTEMP's receive is called: its step 1 has succeeded, with the answers `rest` left. -/
def State.pointerSent (s : State) (a : Byte) (rest : List (Answer Unit)) : State :=
  ({ s with sendAnswers := rest, bus := s.bus ++ [BusEvent.send a pointerFrame (.ok ())] } : State).onSensor a (Sensor.afterSend pointerFrame)

@[simp] theorem pointerSent_ptr : ((s.pointerSent a rest).sensor a).ptr = 0x00 := by
  rw [State.pointerSent, onSensor_sensor_same, afterSend_pointerFrame]

theorem readTemperature_of_sent (hs : s.sendAnswers = .ok () :: rest) : readTemperature a s = receiveTemperature a (s.pointerSent a rest) :=
  readTemperature_ok a hs

theorem pointerSent_exchange : Exchange a [.send a [0x00] (.ok ())] rest s.recvAnswers s (s.pointerSent a rest) :=
  ⟨rfl, rfl, rfl, rfl, fun x hx => onSensor_sensor_other _ a x _ hx⟩

theorem receiveTemperature_exchange (hr : s.recvAnswers = ans :: rest') :
    Exchange a [.recv a 2 ans] s.sendAnswers rest' s (receiveTemperature a s) := by
  have hothers := (receiveTemperature_callsAt a s).others
  match ans, hr with
  | .ok (b0, b1), hr => rw [receiveTemperature_ok _ hr] at hothers ⊢; exact ⟨rfl, rfl, rfl, hothers⟩
  | .busError e, hr => rw [receiveTemperature_failed _ hr] at hothers ⊢; exact ⟨rfl, rfl, rfl, hothers⟩

theorem receiveTemperature_inFlight (hidle : s.inFlight = none) (hr : s.recvAnswers = ans :: rest') :
    (receiveTemperature a s).inFlight = none := by
  match ans, hr with
  | .ok (b0, b1), hr => rw [receiveTemperature_ok _ hr]; exact hidle
  | .busError e, hr => rw [receiveTemperature_failed _ hr]; exact hidle

theorem receiveTemperature_response_of_failed (hr : s.recvAnswers = .busError e :: rest') :
    (receiveTemperature a s).response = some ⟨.rdtemp, .err (.busError e)⟩ := by
  rw [receiveTemperature_failed _ hr, respond_response]

/-- A receive that is not answered leaves RDTEMP there, and the queues as they are. -/
theorem receiveTemperature_exchange_of_unanswered (hr : s.recvAnswers = []) :
    Exchange a [] s.sendAnswers [] s (receiveTemperature a s) := by
  have hothers := (receiveTemperature_callsAt a s).others
  rw [receiveTemperature_unanswered _ hr] at hothers ⊢
  exact ⟨(List.append_nil _).symm, rfl, hr, hothers⟩

theorem readTemperature_exchange_of_failed (hs : s.sendAnswers = .busError e :: rest) :
    Exchange a [.send a [0x00] (.busError e)] rest s.recvAnswers s (readTemperature a s) := by
  have hothers := (readTemperature_callsAt a s).others
  rw [readTemperature_failed _ hs] at hothers ⊢
  exact ⟨rfl, rfl, rfl, hothers⟩

theorem readTemperature_exchange_of_sent (hs : s.sendAnswers = .ok () :: rest) (hr : s.recvAnswers = ans :: rest') :
    Exchange a [.send a [0x00] (.ok ()), .recv a 2 ans] rest rest' s (readTemperature a s) := by
  rw [readTemperature_of_sent hs]
  exact pointerSent_exchange.trans (receiveTemperature_exchange (s := s.pointerSent a rest) hr)

theorem readTemperature_inFlight_of_failed (hidle : s.inFlight = none) (hs : s.sendAnswers = .busError e :: rest) :
    (readTemperature a s).inFlight = none := by
  rw [readTemperature_failed _ hs]
  exact hidle

theorem readTemperature_inFlight_of_sent (hidle : s.inFlight = none) (hs : s.sendAnswers = .ok () :: rest)
    (hr : s.recvAnswers = ans :: rest') : (readTemperature a s).inFlight = none := by
  rw [readTemperature_of_sent hs]
  exact receiveTemperature_inFlight hidle hr

theorem readTemperature_response_of_failed (hs : s.sendAnswers = .busError e :: rest) :
    (readTemperature a s).response = some ⟨.rdtemp, .err (.busError e)⟩ := by
  rw [readTemperature_failed _ hs, respond_response]

theorem readTemperature_response_of_failed_receive (hs : s.sendAnswers = .ok () :: rest) (hr : s.recvAnswers = .busError e :: rest') :
    (readTemperature a s).response = some ⟨.rdtemp, .err (.busError e)⟩ := by
  rw [readTemperature_of_sent hs]
  exact receiveTemperature_response_of_failed hr

end

/-- Settles O28: the null check only responds, and each of the three ways the two calls can end is an outcome of the sequence. -/
theorem rdtempReadsAndDecodes : Obligations.RdtempReadsAndDecodes := by
  intro a s hidle
  have hexec := exec_rdtemp_true_eq_readTemperature hidle a
  refine ⟨exec_of_argumentError (.nullDestination a) fun _ => hidle, fun e rest hs => ⟨_, hexec, ?_⟩,
    fun e rest rest' hs hr => ⟨_, hexec, ?_⟩, fun b0 b1 rest rest' hs hr => ⟨_, hexec, ?_⟩, fun rest hs => ?_⟩
  · obtain ⟨hbus, hsend, hrecv, hothers⟩ := readTemperature_exchange_of_failed (a := a) hs
    exact ⟨readTemperature_response_of_failed hs, hbus, readTemperature_inFlight_of_failed hidle hs, hsend, hrecv, hothers⟩
  · obtain ⟨hbus, hsend, hrecv, hothers⟩ := readTemperature_exchange_of_sent (a := a) hs hr
    exact ⟨readTemperature_response_of_failed_receive hs hr, hbus, readTemperature_inFlight_of_sent hidle hs hr, hsend, hrecv, hothers⟩
  · obtain ⟨hbus, hsend, hrecv, hothers⟩ := readTemperature_exchange_of_sent (a := a) hs hr
    exact ⟨readTemperature_response_of_both_ok a hs hr, hbus, readTemperature_inFlight_of_sent hidle hs hr, hsend, hrecv, hothers⟩
  · rw [busSend_ok a _ hs, onSensor_sensor_same]
    rfl

/-! ## A call that has not returned (R39, D19) -/

/-- The operation is in flight at `p`, with no response, and no call has returned since `s`. -/
structure WaitsAt (p : InFlight) (s t : State) : Prop where
  inFlight : t.inFlight = some p
  response : t.response = none
  bus : t.bus = s.bus

theorem configWrite_waits (caller : ConfigCaller) (b : Byte) (hs : s.sendAnswers = []) :
    WaitsAt (.configWrite caller b) s (configWrite caller b s) := by
  rw [configWrite_unanswered _ _ hs]
  exact ⟨rfl, rfl, rfl⟩

theorem receiveTemperature_waits (a : Byte) (hr : s.recvAnswers = []) : WaitsAt (.tempReceive a) s (receiveTemperature a s) := by
  rw [receiveTemperature_unanswered _ hr]
  exact ⟨rfl, rfl, rfl⟩

theorem readTemperature_waits (a : Byte) (hs : s.sendAnswers = []) : WaitsAt (.tempPointer a) s (readTemperature a s) := by
  rw [readTemperature_unanswered _ hs]
  exact ⟨rfl, rfl, rfl⟩

theorem readTemperature_waits_in_receive (a : Byte) {rest : List (Answer Unit)} (hs : s.sendAnswers = .ok () :: rest)
    (hr : s.recvAnswers = []) : WaitsAt (.tempReceive a) (s.pointerSent a rest) (readTemperature a s) := by
  rw [readTemperature_of_sent hs]
  exact receiveTemperature_waits a hr

theorem resume_waits {p : InFlight} (h : p.Unanswered s) : WaitsAt p s (resume p s) := by
  cases p with
  | configWrite caller b => exact { configWrite_waits (s := s.leaveFlight) caller b h with }
  | tempPointer a => exact { readTemperature_waits (s := s.leaveFlight) a h with }
  | tempReceive a => exact { receiveTemperature_waits (s := s.leaveFlight) a h with }

theorem WaitsAt.and {p : InFlight} (h : WaitsAt p s t) : t.inFlight = some p ∧ t.response = none ∧ t.bus = s.bus :=
  ⟨h.inFlight, h.response, h.bus⟩

/-- Settles O29: each sequence waits at its call, and so does a resumed operation at the call it was in. -/
theorem unansweredCallsLeaveTheOperationInFlight : Obligations.UnansweredCallsLeaveTheOperationInFlight := by
  refine ⟨fun a n p m d c s hidle hs hcode => ⟨⟨_, exec_cfgenc_eq_configure hidle a n p m d, ?_⟩,
    ⟨_, exec_init_some_eq_configure hidle _, ?_⟩⟩, fun a s hidle hs => ⟨_, exec_rdtemp_true_eq_readTemperature hidle a, ?_⟩,
    fun a rest s hidle hs hr => ⟨_, exec_rdtemp_true_eq_readTemperature hidle a, ?_⟩,
    fun p s hflight h => ⟨_, step_of_inFlight hflight, ?_⟩⟩
  · rw [configure_of_code hcode]
    exact (configWrite_waits .cfgenc (packByte c p m d) hs).and
  · rw [configure_of_code hcode]
    exact (configWrite_waits .init (packByte c p m d) hs).and
  · exact (readTemperature_waits a hs).and
  · exact (readTemperature_waits_in_receive a hs hr).and
  · exact (resume_waits h).and

/-! ## The operation in flight, answered (R39, R92) -/

/-- Settles O31: a step runs the sequence of the operation in flight, from the state in which no call is outstanding. -/
theorem inFlightOperationEndsWhenAnswered : Obligations.InFlightOperationEndsWhenAnswered := by
  refine ⟨fun caller b s ans rest hp hs => ?_, fun a s e rest hp hs => ?_, fun a b0 b1 s rest rest' hp hs hr => ?_,
    fun a s e rest rest' hp hs hr => ?_, fun a s rest hp hs hr => ?_, fun a s ans rest' hp hr => ?_⟩
  all_goals refine ⟨_, step_of_inFlight hp, ?_⟩
  · obtain ⟨hbus, hsend, -, hothers⟩ := configWrite_exchange (s := s.leaveFlight) (caller := caller) (b := b) hs
    refine ⟨configWrite_inFlight (s := s.leaveFlight) rfl hs, hsend, hothers, hbus, ?_, ?_⟩
    · rintro rfl
      obtain ⟨hconf, hptr, hhyst, hover⟩ := configWrite_sensor_of_ok (s := s.leaveFlight) (caller := caller) (b := b) hs
      exact ⟨configWrite_response_of_ok (s := s.leaveFlight) hs, hconf, hptr, hhyst, hover⟩
    · rintro e rfl
      exact configWrite_response_of_failed (s := s.leaveFlight) hs
  · obtain ⟨hbus, hsend, hrecv, hothers⟩ := readTemperature_exchange_of_failed (s := s.leaveFlight) (a := a) hs
    exact ⟨readTemperature_inFlight_of_failed (s := s.leaveFlight) rfl hs, readTemperature_response_of_failed (s := s.leaveFlight) hs,
      hsend, hrecv, hbus, hothers⟩
  · obtain ⟨hbus, hsend, hrecv, hothers⟩ := readTemperature_exchange_of_sent (s := s.leaveFlight) (a := a) hs hr
    exact ⟨readTemperature_inFlight_of_sent (s := s.leaveFlight) rfl hs hr, readTemperature_response_of_both_ok (s := s.leaveFlight) a hs hr,
      hsend, hrecv, hbus, hothers⟩
  · obtain ⟨hbus, hsend, hrecv, hothers⟩ := readTemperature_exchange_of_sent (s := s.leaveFlight) (a := a) hs hr
    exact ⟨readTemperature_inFlight_of_sent (s := s.leaveFlight) rfl hs hr,
      readTemperature_response_of_failed_receive (s := s.leaveFlight) hs hr, hsend, hrecv, hbus, hothers⟩
  · have hwaits := readTemperature_waits_in_receive (s := s.leaveFlight) a hs hr
    have hexchange := (pointerSent_exchange (s := s.leaveFlight) (a := a) (rest := rest)).trans (receiveTemperature_exchange_of_unanswered hr)
    rw [← readTemperature_of_sent (s := s.leaveFlight) hs] at hexchange
    obtain ⟨hbus, hsend, hrecv, hothers⟩ := hexchange
    exact ⟨hwaits.inFlight, hwaits.response, hsend, hrecv, hbus, hothers⟩
  · obtain ⟨hbus, hsend, hrecv, hothers⟩ := receiveTemperature_exchange (s := s.leaveFlight) (a := a) hr
    refine ⟨receiveTemperature_inFlight (s := s.leaveFlight) rfl hr, hrecv, hsend, hothers, hbus, ?_, ?_⟩
    · rintro b0 b1 rfl
      exact receiveTemperature_response_of_ok (s := s.leaveFlight) a hr
    · rintro e rfl
      exact receiveTemperature_response_of_failed (s := s.leaveFlight) hr

end Sys2Proof.Machine
end

section
/-! PROOFS. What the bus operations leave in the sensors, however long a call waited (10_state.md sections 5 and 6, 20_memory.md sections 5
and 6; log 4, 7, 9, 24), and that waiting changes no outcome. -/

namespace Sys2Proof.Machine

variable {s t u s₁ s₂ : State} {i : Instr} {a b : Byte} {caller : ConfigCaller} {op : Op} {x : Payload}

/-! ## The reference device (R42) -/

/-- Settles O48: of each of the two frames both devices make the same pointer and configuration. -/
theorem sensorFollowsTheReferenceDevice : Obligations.SensorFollowsTheReferenceDevice := by
  intro b a temp rest s bytes hs hbytes
  rw [busSend_ok a bytes hs, onSensor_sensor_same]
  rcases hbytes with rfl | rfl
  · exact ⟨_, rfl, rfl, rfl⟩
  · exact ⟨_, rfl, rfl, rfl⟩

/-! ## The pointer that RDTEMP sets (R91) -/

/-- A change of one sensor that keeps its pointer keeps that of every sensor. -/
theorem onSensor_ptr {f : Nat → Sensor → Sensor} (hf : ∀ n y, (f n y).ptr = y.ptr) (y : Byte) :
    ((s.onSensor a f).sensor y).ptr = (s.sensor y).ptr := by
  by_cases hy : y = a
  · subst hy
    rw [onSensor_sensor_same, hf]
  · rw [onSensor_sensor_other s a y f hy]

/-- A receive that has not failed keeps the pointer (log 9). -/
theorem receiveTemperature_ptr (hidle : s.inFlight = none) (h : PointerWritten (receiveTemperature a s) a) :
    ((receiveTemperature a s).sensor a).ptr = (s.sensor a).ptr := by
  match hr : s.recvAnswers with
  | [] => rw [receiveTemperature_unanswered _ hr, await_sensor, onSensor_ptr duringReceive_ptr]
  | .ok (b0, b1) :: rest =>
    rw [receiveTemperature_ok _ hr, respond_sensor]
    exact onSensor_ptr (s := { s with recvAnswers := rest, bus := _ }) afterReceive_ptr a
  | .busError e :: rest =>
    rw [receiveTemperature_failed _ hr] at h
    obtain hflight | ⟨x, hresp⟩ := h
    · cases hidle.symm.trans hflight
    · cases hresp

theorem readTemperature_ptr (hidle : s.inFlight = none) (h : PointerWritten (readTemperature a s) a) :
    ((readTemperature a s).sensor a).ptr = 0x00 := by
  match hs : s.sendAnswers with
  | [] =>
    rw [readTemperature_unanswered _ hs] at h
    obtain hflight | ⟨x, hresp⟩ := h
    · cases hflight
    · cases hresp
  | .ok () :: rest =>
    rw [readTemperature_of_sent hs] at h ⊢
    rw [receiveTemperature_ptr (s := s.pointerSent a rest) hidle h, pointerSent_ptr]
  | .busError e :: rest =>
    rw [readTemperature_failed _ hs] at h
    obtain hflight | ⟨x, hresp⟩ := h
    · cases hidle.symm.trans hflight
    · cases hresp

/-- Settles O49: RDTEMP at once, resumed in its send, and resumed in its receive. -/
theorem pointerIsZeroFromStepOneOn : Obligations.PointerIsZeroFromStepOneOn := by
  refine ⟨fun a s t hexec h => ?_, fun a s t hflight hstep h => ?_, fun a s t hflight hstep h => ?_⟩
  · obtain ⟨hidle, rfl⟩ := whenIdle_next hexec
    exact readTemperature_ptr hidle h
  · obtain rfl := Host.Outcome.next.inj ((step_of_inFlight hflight).symm.trans hstep)
    exact readTemperature_ptr (s := s.leaveFlight) rfl h
  · obtain rfl := Host.Outcome.next.inj ((step_of_inFlight hflight).symm.trans hstep)
    exact receiveTemperature_ptr (s := s.leaveFlight) rfl h

/-! ## The thresholds (R16, R90) -/

/-- A change of one sensor that keeps its thresholds keeps those of every sensor. -/
theorem onSensor_sameThresholds {f : Nat → Sensor → Sensor} (hf : ∀ n y, (f n y).hyst = y.hyst ∧ (f n y).overtemp = y.overtemp) :
    SameThresholds s (s.onSensor a f) := by
  intro y
  by_cases hy : y = a
  · subst hy
    rw [onSensor_sensor_same]
    exact hf _ _
  · rw [onSensor_sensor_other s a y f hy]
    exact ⟨rfl, rfl⟩

theorem configWrite_sameThresholds (h : ∀ e, (configWrite caller b s).response ≠ some ⟨caller.op, .err (.busError e)⟩) :
    SameThresholds s (configWrite caller b s) := by
  match hs : s.sendAnswers with
  | [] =>
    rw [configWrite_unanswered _ _ hs]
    exact onSensor_sameThresholds fun n y => ⟨rfl, rfl⟩
  | .ok () :: rest =>
    rw [configWrite_ok _ _ hs]
    exact onSensor_sameThresholds (s := { s with sendAnswers := rest, bus := _ }) fun n y => ⟨rfl, rfl⟩
  | .busError e :: rest => exact absurd (configWrite_response_of_failed hs) (h e)

theorem configure_sameThresholds {n : Byte} {p m d : Field}
    (h : ∀ e, (configure caller n p m d s).response ≠ some ⟨caller.op, .err (.busError e)⟩) :
    SameThresholds s (configure caller n p m d s) := by
  match hcode : fqMap n.toNat with
  | none =>
    rw [configure_of_no_code hcode]
    exact fun y => ⟨rfl, rfl⟩
  | some c =>
    rw [configure_of_code hcode] at h ⊢
    exact configWrite_sameThresholds h

/-- Settles O50: the write of CFGENC and INIT, at once and resumed. -/
theorem thresholdsAreNeverTouchedByAConfiguration : Obligations.ThresholdsAreNeverTouchedByAConfiguration := by
  refine ⟨fun i s t hconf hexec h => ?_, fun caller b s t hflight hstep h => ?_⟩
  · cases exec_runs hexec with
    | responds r _ _ ht => rw [ht]; exact fun y => ⟨rfl, rfl⟩
    | configures caller n p m d _ hop _ _ ht =>
      rw [ht, hop] at h
      rw [ht]
      exact configure_sameThresholds h
    | reads a hi => subst hi; cases hconf
  · obtain rfl := Host.Outcome.next.inj ((step_of_inFlight hflight).symm.trans hstep)
    exact configWrite_sameThresholds (s := s.leaveFlight) h

/-! ## Two runs that end alike -/

/-- The state with more answers to come. -/
def State.withAnswers (s : State) (sends : List (Answer Unit)) (recvs : List (Answer (Byte × Byte))) : State :=
  { s with sendAnswers := s.sendAnswers ++ sends, recvAnswers := s.recvAnswers ++ recvs }

/-- All that the caller and the transport can see of the two states is the same. -/
structure EndsAlike (u v : State) : Prop where
  response : u.response = v.response
  inFlight : u.inFlight = v.inFlight
  bus : u.bus = v.bus
  sendAnswers : u.sendAnswers = v.sendAnswers
  recvAnswers : u.recvAnswers = v.recvAnswers

/-- Runs alike from states in which the same calls have returned end alike. -/
theorem RunAlike.endsAlike {t₁ t₂ : State} (hrun : RunAlike s₁ s₂ t₁ t₂) (hbus : s₂.bus = s₁.bus) : EndsAlike t₂ t₁ := by
  obtain ⟨new, h₁, h₂⟩ := hrun.events
  exact ⟨hrun.response, hrun.inFlight, by rw [h₁, h₂, hbus], hrun.sendAnswers, hrun.recvAnswers⟩

/-- The two sensors hold the same but for the temperature. -/
structure AlikeButTemp (y z : Sensor) : Prop where
  ptr : y.ptr = z.ptr
  conf : y.conf = z.conf
  hyst : y.hyst = z.hyst
  overtemp : y.overtemp = z.overtemp

/-- The write settles what a waiting write left free in the addressed sensor; so from two states whose other sensors are equal, and with the
same thresholds there, it leaves on success the same sensors but for the temperature. -/
theorem configWrite_alikeButTemp (hidles : IdleAlike s₁ s₂) (hothers : ∀ y, y ≠ Config.cfgDevAddr → s₂.sensor y = s₁.sensor y)
    (hthresholds : SameThresholds s₁ s₂) (hresp : (configWrite caller b s₂).response = some ⟨op, .ok x⟩) (y : Byte) :
    AlikeButTemp ((configWrite caller b s₂).sensor y) ((configWrite caller b s₁).sensor y) := by
  match hs : s₂.sendAnswers with
  | [] => rw [configWrite_unanswered _ _ hs] at hresp; cases hresp
  | .busError e :: rest => rw [configWrite_failed _ _ hs] at hresp; cases hresp
  | .ok () :: rest =>
    by_cases hy : y = Config.cfgDevAddr
    · subst hy
      obtain ⟨hconf₂, hptr₂, hhyst₂, hover₂⟩ := configWrite_sensor_of_ok (caller := caller) (b := b) hs
      obtain ⟨hconf₁, hptr₁, hhyst₁, hover₁⟩ := configWrite_sensor_of_ok (caller := caller) (b := b) (hidles.sendAnswers.symm.trans hs)
      obtain ⟨hhyst, hover⟩ := hthresholds Config.cfgDevAddr
      exact ⟨hptr₂.trans hptr₁.symm, hconf₂.trans hconf₁.symm, by rw [hhyst₂, hhyst₁, hhyst], by rw [hover₂, hover₁, hover]⟩
    · have heq : (configWrite caller b s₂).sensor y = (configWrite caller b s₁).sensor y := by
        rw [(configWrite_callsAt caller b s₂).others.2 y hy, (configWrite_callsAt caller b s₁).others.2 y hy, hothers y hy]
      rw [heq]
      exact ⟨rfl, rfl, rfl, rfl⟩

/-- A receive that delivers keeps every pointer. -/
theorem receiveTemperature_ptr_of_ok (hresp : (receiveTemperature a s).response = some ⟨op, .ok x⟩) (y : Byte) :
    ((receiveTemperature a s).sensor y).ptr = (s.sensor y).ptr := by
  match hr : s.recvAnswers with
  | [] => rw [receiveTemperature_unanswered _ hr] at hresp; cases hresp
  | .busError e :: rest => rw [receiveTemperature_failed _ hr] at hresp; cases hresp
  | .ok (b0, b1) :: rest =>
    rw [receiveTemperature_ok _ hr, respond_sensor]
    exact onSensor_ptr (s := { s with recvAnswers := rest, bus := _ }) afterReceive_ptr y

/-- RDTEMP that delivers has set its sensor's pointer and kept the others. -/
theorem readTemperature_ptr_of_ok (hresp : (readTemperature a s).response = some ⟨op, .ok x⟩) (y : Byte) :
    ((readTemperature a s).sensor y).ptr = if y = a then 0x00 else (s.sensor y).ptr := by
  match hs : s.sendAnswers with
  | [] => rw [readTemperature_unanswered _ hs] at hresp; cases hresp
  | .busError e :: rest => rw [readTemperature_failed _ hs] at hresp; cases hresp
  | .ok () :: rest =>
    rw [readTemperature_of_sent hs] at hresp ⊢
    rw [receiveTemperature_ptr_of_ok hresp]
    split_ifs with hy
    · subst hy
      exact pointerSent_ptr
    · rw [State.pointerSent, onSensor_sensor_other _ a y _ hy]
      rfl

/-! ## One call, answered later (20_memory.md section 5) -/

variable {sends : List (Answer Unit)} {recvs : List (Answer (Byte × Byte))}

/-- The run that waited, `u`, ends as the run that was answered at once, `v`. -/
structure EndsAsAtOnce (i : Instr) (u v : State) : Prop where
  ends : EndsAlike u v
  sensors : ∀ x, u.response = some ⟨i.op, .ok x⟩ → ∀ y : Byte, (u.sensor y).ptr = (v.sensor y).ptr ∧
    (configures i = true → (u.sensor y).conf = (v.sensor y).conf ∧ (u.sensor y).hyst = (v.sensor y).hyst ∧
      (u.sensor y).overtemp = (v.sensor y).overtemp)

/-- A waiting operation goes on from a state that is to the block as the one it began in. -/
theorem idleAlike_resumed (hidle : s.inFlight = none) (f : Nat → Sensor → Sensor) (p : InFlight) :
    IdleAlike (s.withAnswers sends recvs) (((s.onSensor a f).await p).withAnswers sends recvs).leaveFlight :=
  ⟨hidle, rfl, rfl, rfl⟩

theorem configWrite_answered_later (hs : s.sendAnswers = []) (hidle : s.inFlight = none) :
    EndsAsAtOnce i (resume (.configWrite caller b) ((configWrite caller b s).withAnswers sends recvs))
      (configWrite caller b (s.withAnswers sends recvs)) := by
  rw [configWrite_unanswered _ _ hs]
  have hidles := idleAlike_resumed (a := Config.cfgDevAddr) (sends := sends) (recvs := recvs) hidle (Sensor.duringSend (configFrame b))
    (.configWrite caller b)
  refine ⟨(configWrite_alike hidles caller b).endsAlike rfl, fun x hresp y => ?_⟩
  have hthresholds : SameThresholds s (s.onSensor Config.cfgDevAddr (Sensor.duringSend (configFrame b))) :=
    onSensor_sameThresholds fun _ _ => ⟨rfl, rfl⟩
  obtain ⟨hptr, hconf, hhyst, hover⟩ := configWrite_alikeButTemp hidles (fun y hy => onSensor_sensor_other s _ y _ hy)
    hthresholds hresp y
  exact ⟨hptr, fun _ => ⟨hconf, hhyst, hover⟩⟩

theorem readTemperature_answered_later_in_send (hs : s.sendAnswers = []) (hidle : s.inFlight = none) :
    EndsAsAtOnce (.rdtemp a true) (resume (.tempPointer a) ((readTemperature a s).withAnswers sends recvs))
      (readTemperature a (s.withAnswers sends recvs)) := by
  rw [readTemperature_unanswered _ hs]
  have hidles := idleAlike_resumed (a := a) (sends := sends) (recvs := recvs) hidle (Sensor.duringSend pointerFrame) (.tempPointer a)
  have hends := (readTemperature_alike hidles a).endsAlike rfl
  refine ⟨hends, fun x hresp y => ⟨?_, nofun⟩⟩
  refine (readTemperature_ptr_of_ok hresp y).trans (.trans ?_ (readTemperature_ptr_of_ok (hends.response.symm.trans hresp) y).symm)
  split_ifs with hy
  · rfl
  · exact congrArg Sensor.ptr (onSensor_sensor_other s a y _ hy)

theorem readTemperature_answered_later_in_receive {rest : List (Answer Unit)} (hs : s.sendAnswers = .ok () :: rest) (hr : s.recvAnswers = [])
    (hidle : s.inFlight = none) :
    EndsAsAtOnce (.rdtemp a true) (resume (.tempReceive a) ((readTemperature a s).withAnswers sends recvs))
      (readTemperature a (s.withAnswers sends recvs)) := by
  have hsent : (s.withAnswers sends recvs).sendAnswers = .ok () :: (rest ++ sends) := congrArg (· ++ sends) hs
  rw [readTemperature_of_sent hs, readTemperature_of_sent hsent, receiveTemperature_unanswered (s := s.pointerSent a rest) _ hr]
  have hidles := idleAlike_resumed (s := s.pointerSent a rest) (a := a) (sends := sends) (recvs := recvs) hidle Sensor.duringReceive
    (.tempReceive a)
  have hends := (receiveTemperature_alike hidles a).endsAlike rfl
  refine ⟨hends, fun x hresp y => ⟨?_, nofun⟩⟩
  calc _ = ((s.pointerSent a rest).sensor y).ptr := (receiveTemperature_ptr_of_ok hresp y).trans (onSensor_ptr duringReceive_ptr y)
    _ = _ := (receiveTemperature_ptr_of_ok (hends.response.symm.trans hresp) y).symm

/-- Both runs exist, and end alike. -/
def WaitingEndsAsAtOnce (i : Instr) (s t : State) (sends : List (Answer Unit)) (recvs : List (Answer (Byte × Byte))) : Prop :=
  ∃ u v, step (t.withAnswers sends recvs) = .next u ∧ exec i (s.withAnswers sends recvs) = .next v ∧ EndsAsAtOnce i u v

theorem configure_waitingEndsAsAtOnce {n : Byte} {p m d : Field} (hidle : s.inFlight = none)
    (hform : ∀ s, exec i s = s.whenIdle (configure caller n p m d s)) (hwait : (configure caller n p m d s).inFlight ≠ none) :
    WaitingEndsAsAtOnce i s (configure caller n p m d s) sends recvs := by
  match hcode : fqMap n.toNat with
  | none => rw [configure_of_no_code hcode] at hwait; exact absurd hidle hwait
  | some c =>
    rw [configure_of_code hcode] at hwait ⊢
    match hs : s.sendAnswers with
    | ans :: rest => exact absurd (configWrite_inFlight hidle hs) hwait
    | [] =>
      have hexec : exec i (s.withAnswers sends recvs) = .next (configWrite caller (packByte c p m d) (s.withAnswers sends recvs)) := by
        rw [hform, whenIdle_none (s := s.withAnswers sends recvs) _ hidle, configure_of_code hcode]
      exact ⟨_, _, step_of_inFlight (configWrite_waits caller _ hs).inFlight, hexec, configWrite_answered_later hs hidle⟩

theorem readTemperature_waitingEndsAsAtOnce (hidle : s.inFlight = none) (hwait : (readTemperature a s).inFlight ≠ none) :
    WaitingEndsAsAtOnce (.rdtemp a true) s (readTemperature a s) sends recvs := by
  have hexec := exec_rdtemp_true_eq_readTemperature (s := s.withAnswers sends recvs) hidle a
  match hs : s.sendAnswers, hr : s.recvAnswers with
  | [], _ => exact ⟨_, _, step_of_inFlight (readTemperature_waits a hs).inFlight, hexec, readTemperature_answered_later_in_send hs hidle⟩
  | .busError e :: rest, _ => exact absurd (readTemperature_inFlight_of_failed hidle hs) hwait
  | .ok () :: rest, ans :: rest' => exact absurd (readTemperature_inFlight_of_sent hidle hs hr) hwait
  | .ok () :: rest, [] =>
    exact ⟨_, _, step_of_inFlight (readTemperature_waits_in_receive a hs hr).inFlight, hexec,
      readTemperature_answered_later_in_receive hs hr hidle⟩

theorem exec_waitingEndsAsAtOnce (hidle : s.inFlight = none) (hexec : exec i s = .next t) (hwait : t.inFlight ≠ none) :
    WaitingEndsAsAtOnce i s t sends recvs := by
  cases execForm i with
  | responds r _ _ hform =>
    obtain rfl := Host.Outcome.next.inj ((hform s fun _ => hidle).symm.trans hexec)
    exact absurd hidle hwait
  | configures caller n p m d _ _ _ hform =>
    obtain ⟨-, rfl⟩ := whenIdle_next ((hform s).symm.trans hexec)
    exact configure_waitingEndsAsAtOnce hidle hform hwait
  | reads a hi =>
    subst hi
    obtain ⟨-, rfl⟩ := whenIdle_next hexec
    exact readTemperature_waitingEndsAsAtOnce hidle hwait

/-- Settles O30: by the call that the instruction waits in. -/
theorem waitingChangesNoOutcome : Obligations.WaitingChangesNoOutcome := by
  intro i s t sends recvs hidle hexec hwait
  obtain ⟨u, v, hstep, hexec', ⟨hresp, hflight, hbus, hsend, hrecv⟩, hsensors⟩ := exec_waitingEndsAsAtOnce hidle hexec hwait
  exact ⟨u, v, hstep, hexec', hresp, hflight, hbus, hsend, hrecv, hsensors⟩

end Sys2Proof.Machine
end

section
/-! PROOFS. The output ports by outcome (30_encoding.md section 7): what each operation delivers fits its ports, and its errors its `status` port. -/

namespace Sys2Proof.Machine

variable {s t : State} {i : Instr} {op : Op} {r : Response}

/-! ## What the operations respond (R61) -/

/-- A response in `t` is one of `op`, with a result that `op` may have. -/
def RespondsAs (op : Op) (t : State) : Prop := ∀ r, t.response = some r → r.op = op ∧ r.result.Fits op

theorem respondsAs_respond {r : Result} (hfits : r.Fits op) : RespondsAs op (s.respond op r) := by
  rintro _ ⟨⟩
  exact ⟨rfl, hfits⟩

theorem respondsAs_await (p : InFlight) : RespondsAs op (s.await p) := nofun

theorem ConfigCaller.delivers : ∀ (caller : ConfigCaller) (b : Byte), Delivers caller.op (caller.payload b)
  | .cfgenc, b => .cfgenc b
  | .init, _ => .init

theorem ConfigCaller.hasStatusPort : ∀ caller : ConfigCaller, hasStatusPort caller.op = true
  | .cfgenc => rfl
  | .init => rfl

theorem configWrite_respondsAs (caller : ConfigCaller) (b : Byte) (s : State) : RespondsAs caller.op (configWrite caller b s) := by
  match hs : s.sendAnswers with
  | [] => rw [configWrite_unanswered _ _ hs]; exact respondsAs_await _
  | .ok () :: rest => rw [configWrite_ok _ _ hs]; exact respondsAs_respond (caller.delivers b)
  | .busError e :: rest => rw [configWrite_failed _ _ hs]; exact respondsAs_respond caller.hasStatusPort

theorem configure_respondsAs (caller : ConfigCaller) (n : Byte) (p m d : Field) (s : State) :
    RespondsAs caller.op (configure caller n p m d s) := by
  match hcode : fqMap n.toNat with
  | none => rw [configure_of_no_code hcode]; exact respondsAs_respond caller.hasStatusPort
  | some c => rw [configure_of_code hcode]; exact configWrite_respondsAs caller _ s

theorem receiveTemperature_respondsAs (a : Byte) (s : State) : RespondsAs .rdtemp (receiveTemperature a s) := by
  match hr : s.recvAnswers with
  | [] => rw [receiveTemperature_unanswered _ hr]; exact respondsAs_await _
  | .ok (b0, b1) :: rest => rw [receiveTemperature_ok _ hr]; exact respondsAs_respond (.rdtemp _)
  | .busError e :: rest => rw [receiveTemperature_failed _ hr]; exact respondsAs_respond rfl

theorem readTemperature_respondsAs (a : Byte) (s : State) : RespondsAs .rdtemp (readTemperature a s) := by
  match hs : s.sendAnswers with
  | [] => rw [readTemperature_unanswered _ hs]; exact respondsAs_await _
  | .ok () :: rest => rw [readTemperature_of_sent hs]; exact receiveTemperature_respondsAs a _
  | .busError e :: rest => rw [readTemperature_failed _ hs]; exact respondsAs_respond rfl

theorem exec_respondsAs (hexec : exec i s = .next t) : RespondsAs i.op t := by
  cases exec_runs hexec with
  | responds r hfits _ ht => rw [ht]; exact respondsAs_respond hfits
  | configures caller n p m d _ hop _ _ ht => rw [ht, hop]; exact configure_respondsAs caller n p m d s
  | reads a hi _ ht => rw [ht, hi]; exact readTemperature_respondsAs a s

/-! ## The ports of a response (R11, R57) -/

theorem statusPort_eq_none_iff : r.statusPort = none ↔ r.op = .cpack ∨ r.op = .cunpack ∨ r.op = .tasm ∨ r.op = .s11f ∨ r.op = .tdec := by
  rw [Response.statusPort]
  cases r.op <;> simp [hasStatusPort]

/-- An error drives `status` with its own code, and only a `BusError` drives `bus_err`. -/
theorem ports_of_err {k : ErrorKind} (hport : hasStatusPort r.op = true) (hk : r.result = .err k) :
    r.fqCodePort = none ∧ r.fqSizePort = none ∧ r.bitPorts = none ∧ r.cfgBytePort = none ∧ r.raw11Port = none ∧
    r.tempQ3Port = none ∧ r.tempF32Port = none ∧
    (k = .nullArgument → r.statusPort = some 0b01 ∧ r.busErrPort = none) ∧
    (k = .invalidArgument → r.statusPort = some 0b10 ∧ r.busErrPort = none) ∧
    (∀ e, k = .busError e → r.statusPort = some 0b11 ∧ r.busErrPort = some e) := by
  obtain ⟨op, _⟩ := r
  subst hk
  have hstatus := statusPort_of_hasStatusPort hport (.err k)
  refine ⟨rfl, rfl, rfl, rfl, rfl, rfl, rfl, ?_, ?_, ?_⟩
  · rintro rfl; exact ⟨hstatus, rfl⟩
  · rintro rfl; exact ⟨hstatus, rfl⟩
  · rintro e rfl; exact ⟨hstatus, rfl⟩

/-- A success drives the ports that the table lists for its operation, one operation after the other. -/
theorem ports_of_ok {x : Payload} (hdelivers : Delivers op x) (hop : r.op = op) (hx : r.result = .ok x) :
    r.busErrPort = none ∧
    (r.fqCodePort.isSome = true ↔ op = .fqmap ∨ op = .cunpack) ∧
    (r.fqSizePort.isSome = true ↔ op = .cunpack) ∧ (r.bitPorts.isSome = true ↔ op = .cunpack) ∧
    (r.cfgBytePort.isSome = true ↔ op = .cpack ∨ op = .cfgenc) ∧
    (r.raw11Port.isSome = true ↔ op = .tasm) ∧
    (r.tempQ3Port.isSome = true ↔ op = .s11f ∨ op = .tdec ∨ op = .rdtemp) ∧
    (r.tempF32Port.isSome = true ↔ op = .s11f ∨ op = .tdec ∨ op = .rdtemp) ∧
    (r.statusPort = some 0b00 ↔ op = .fqmap ∨ op = .cfgenc ∨ op = .init ∨ op = .rdtemp) := by
  obtain ⟨_, _⟩ := r
  subst hop hx
  cases hdelivers <;>
    simp [Response.busErrPort, Response.fqCodePort, Response.fqSizePort, Response.bitPorts, Response.cfgBytePort, Response.raw11Port,
      Response.tempQ3Port, Response.tempF32Port, Response.statusPort, hasStatusPort, Result.status, Status.code]

/-- Settles O47: the response is one of the instruction's operation, with a result that fits it. -/
theorem outputPortsByOutcome : Obligations.OutputPortsByOutcome := by
  intro i s t r hexec hresp
  obtain ⟨hop, hfits⟩ := exec_respondsAs hexec r hresp
  refine ⟨hop, fun k hk => ?_, hop ▸ statusPort_eq_none_iff, fun x hx => ?_⟩
  · rw [hk] at hfits
    exact ports_of_err (hop ▸ hfits) hk
  · rw [hx] at hfits
    exact ports_of_ok hfits hop hx

end Sys2Proof.Machine
end

section
/-! PROOFS. The temperature as a number (41_temperature_decoder.md section 2): the value of its binary32 pattern (R55, R83, R84; log 14),
the round trip through the two bytes (R86), and the order and symmetry of the fields. -/

namespace Sys2Proof.Machine

/-! ## The parts of a binary32 pattern (R55) -/

section
variable {k : Int}

theorem f32_signBit (hk : k ≠ 0) (hlog : Nat.log2 k.natAbs ≤ 23) : (f32 k).getLsbD 31 = decide (k < 0) := by
  have hfrac := fractionBits_lt hlog
  rw [← BitVec.msb_eq_getLsbD_last (f32 k), BitVec.msb_eq_decide, f32_toNat hk hlog, decide_eq_decide]
  split_ifs <;> omega

theorem f32_exponent (hk : k ≠ 0) (hlog : Nat.log2 k.natAbs ≤ 23) : binary32Exponent (f32 k) = Nat.log2 k.natAbs + 124 := by
  have hfrac := fractionBits_lt hlog
  rw [binary32Exponent, BitVec.extractLsb'_toNat, Nat.shiftRight_eq_div_pow, f32_toNat hk hlog]
  split_ifs <;> omega

theorem f32_fraction (hk : k ≠ 0) (hlog : Nat.log2 k.natAbs ≤ 23) : ((f32 k).extractLsb' 0 23).toNat = fractionBits k.natAbs := by
  have hfrac := fractionBits_lt hlog
  rw [BitVec.extractLsb'_toNat, Nat.shiftRight_zero, f32_toNat hk hlog]
  split_ifs <;> omega

end

/-- The hidden one and the fraction, scaled by the exponent, are the number. -/
theorem significand_mul_pow {m : Nat} (hm : m ≠ 0) (hlog : Nat.log2 m ≤ 23) :
    (1 + (fractionBits m : ℚ) / 2 ^ 23) * 2 ^ Nat.log2 m = m := by
  have hpow : (2 : ℚ) ^ 23 = 2 ^ (23 - Nat.log2 m) * 2 ^ Nat.log2 m := by rw [← pow_add, Nat.sub_add_cancel hlog]
  rw [fractionBits, Nat.shiftLeft_eq, Nat.cast_mul, Nat.cast_sub (Nat.log2_self_le hm), hpow]
  push_cast
  field_simp
  ring

theorem binary32Value_f32 {k : Int} (hlog : Nat.log2 k.natAbs ≤ 23) : binary32Value (f32 k) = (k : ℚ) / 8 := by
  rcases eq_or_ne k 0 with rfl | hk
  · simp [f32, binary32Value]
  · have hexp : ((f32 k).extractLsb' 23 8).toNat = Nat.log2 k.natAbs + 124 := f32_exponent hk hlog
    have hscale : (2 : ℚ) ^ (((Nat.log2 k.natAbs + 124 : ℕ) : ℤ) - 127) = 2 ^ Nat.log2 k.natAbs / 8 := by
      have hbias : ((Nat.log2 k.natAbs + 124 : ℕ) : ℤ) - 127 = (Nat.log2 k.natAbs : ℤ) - 3 := by push_cast; ring
      rw [hbias, zpow_sub₀ two_ne_zero, zpow_natCast]
      norm_num
    have hsign : (if k < 0 then -1 else 1 : ℚ) * (k.natAbs : ℚ) = k := by
      rw [Nat.cast_natAbs]
      split_ifs with hneg
      · rw [abs_of_neg hneg]; push_cast; ring
      · rw [abs_of_nonneg (not_lt.mp hneg), one_mul]
    simp only [binary32Value, f32_signBit hk hlog, hexp, f32_fraction hk hlog, hscale, decide_eq_true_eq]
    rw [if_neg (by omega)]
    calc _ = (if k < 0 then -1 else 1 : ℚ) * ((1 + (fractionBits k.natAbs : ℚ) / 2 ^ 23) * 2 ^ Nat.log2 k.natAbs) / 8 := by ring
      _ = (k : ℚ) / 8 := by rw [significand_mul_pow (Int.natAbs_ne_zero.mpr hk) hlog, hsign]

theorem log2_natAbs_le {k : Int} (hrange : k.natAbs ≤ 1024) : Nat.log2 k.natAbs ≤ 10 := by
  rcases eq_or_ne k 0 with rfl | hk
  · decide
  · exact Nat.le_of_lt_succ ((Nat.log2_lt (Int.natAbs_ne_zero.mpr hk)).mpr (by omega))

/-- Settles O23: the ports show the field and the pattern of its count, which has at most eleven bits. -/
theorem temperaturePortsAreExact : Obligations.TemperaturePortsAreExact := by
  intro v
  obtain ⟨hlow, hhigh⟩ := raw11_toInt_bounds v
  have hlog : Nat.log2 v.toInt.natAbs ≤ 10 := log2_natAbs_le (by omega)
  rw [decode11_tempF32, decode11_celsius]
  refine ⟨decode11_tempQ3 v, binary32Value_f32 (hlog.trans (by decide)), ?_, fun hv => ?_⟩
  · rintro rfl
    rfl
  · have hk : v.toInt ≠ 0 := fun h => hv (BitVec.eq_of_toInt_eq h)
    rw [f32_exponent hk (hlog.trans (by decide))]
    omega

/-! ## The round trip (R86) -/

/-- Three bits moved to the top of a byte are its high slice, above five zeros. -/
theorem highBits_slices : ∀ x : BitVec 3, (x.setWidth 8 <<< 5 : Byte).extractLsb' 5 3 = x ∧ (x.setWidth 8 <<< 5 : Byte) &&& 0x1F = 0 := by
  decide

theorem assemble11_encodeTemperature (k : Int) : assemble11 (encodeTemperature k).1 (encodeTemperature k).2 = BitVec.ofInt 11 k :=
  (assemble11_eq_iff _ _ _).mpr ⟨rfl, (highBits_slices _).1⟩

/-- Settles O25: TENC's bytes are those of the field of `k`, whose signed value is `k`. -/
theorem temperatureRoundTrip : Obligations.TemperatureRoundTrip := by
  refine ⟨fun k hlow hhigh => ?_, decodeSample_count, decode11_celsius⟩
  have hk : (BitVec.ofInt 11 k).toInt = k := BitVec.toInt_ofInt_eq_self (by decide) hlow (Int.lt_add_one_of_le hhigh)
  rw [decodeSample_count, decodeSample_celsius, assemble11_encodeTemperature, hk]
  exact ⟨rfl, rfl, (highBits_slices _).2⟩

/-! ## The order of the fields -/

theorem decode11_celsius_lt_iff {v w : Raw11} : (decode11 v).celsius < (decode11 w).celsius ↔ v.toInt < w.toInt := by
  rw [decode11_celsius, decode11_celsius, div_lt_div_iff_of_pos_right (by norm_num), Int.cast_lt]

/-- The field of the opposite temperature; `0x400` has none. -/
theorem toInt_add_opposite {v : Raw11} (hv : v ≠ 0x400) : v.toInt + (BitVec.ofNat 11 ((2048 - v.toNat) % 2048)).toInt = 0 := by
  have hne : v.toNat ≠ 1024 := fun h => hv (BitVec.eq_of_toNat_eq h)
  have := v.isLt
  rw [raw11_toInt, raw11_toInt, BitVec.toNat_ofNat]
  split_ifs <;> omega

/-- The next field is one count higher; after `0x3FF` the count wraps. -/
theorem toInt_succ {v : Raw11} (hv : v ≠ 0x3FF) : (v + 1).toInt = v.toInt + 1 := by
  have hne : v.toNat ≠ 1023 := fun h => hv (BitVec.eq_of_toNat_eq h)
  have := v.isLt
  have hsucc : (v + 1).toNat = (v.toNat + 1) % 2048 := rfl
  rw [raw11_toInt, raw11_toInt, hsucc]
  split_ifs <;> omega

/-- Settles O26: temperatures compare, add and differ as the fields' signed values. -/
theorem decoderIsMonotoneAndSymmetric : Obligations.DecoderIsMonotoneAndSymmetric := by
  refine ⟨fun v w hvw hw => ?_, fun v w hv hvw => ?_, fun v w hv hw => ?_, fun v hv => ?_, fun v hv => ?_⟩
  · rw [decode11_celsius_lt_iff, raw11_toInt, raw11_toInt, if_pos (by omega), if_pos (by omega)]
    omega
  · rw [decode11_celsius_lt_iff, raw11_toInt, raw11_toInt, if_neg (by omega), if_neg (by omega)]
    omega
  · have := w.isLt
    rw [decode11_celsius_lt_iff, raw11_toInt, raw11_toInt, if_neg (by omega), if_pos (by omega)]
    omega
  · have hsum : (v.toInt : ℚ) + (BitVec.ofNat 11 ((2048 - v.toNat) % 2048)).toInt = 0 := by exact_mod_cast toInt_add_opposite hv
    rw [decode11_celsius, decode11_celsius, ← add_div, hsum, zero_div]
  · rw [decode11_celsius, decode11_celsius, toInt_succ hv]
    push_cast
    ring

end Sys2Proof.Machine
end
